-- ==== Sys2Proof/Word.lean ====
section
/-! DEFINITION. The word types of the DDScopeX CAN codec (00_scope.md R6, R10). -/

namespace Sys2Proof

/-- One byte of a payload buffer (10_state.md R25, R29). -/
abbrev Byte := BitVec 8

/-- The 16-bit command word of the command port (10_state.md R16). -/
abbrev CmdWord := BitVec 16

/-- The 32-bit operand word of the command port (10_state.md R16), and the width of RESULT (R30). -/
abbrev DataWord := BitVec 32

/-- An 11-bit standard arbitration identifier (00_scope.md R6). -/
abbrev CanId := BitVec 11

end Sys2Proof
end

