-- ==== Sys2Proof/Syntax.lean ====
section
/-! DEFINITION. The operations of the block as abstract syntax, one constructor per row of the
operation map (30_encoding.md R67). An operation is a command word together with a data word
(R70), so an instruction carries the operands of both (R66). Data bits that R66 says are ignored
stand in no constructor. -/

namespace Sys2Proof

/-- The buffer an UNPACK reads, the bit `B` of the command word (42_unpack.md R87):
0 is RX_BUF, 1 is TX_BUF. -/
inductive Buf where
  | rx
  | tx
  deriving DecidableEq, Repr, Inhabited

/-- The source of ID_DEC, the field `SRC` of the command word (40_frame.md R76); the operand form
carries the data word. -/
inductive IdSrc where
  | value (v : DataWord)
  | rx
  | frame
  deriving DecidableEq, Repr, Inhabited

/-- The operations of 30_encoding.md R67. Offsets, lengths, axis and command ids are the unsigned
integers R66 reads from their fields; data values stay the bit patterns they are. -/
inductive Instr where
  | nop
  | idEnc (query : Bool) (axis cid : Nat)
  | idDec (src : IdSrc)
  | bufClr
  | setDlc (len : Nat)
  | setTimeout (ms : DataWord)
  | setPolicy (silent : Bool)
  | packU8 (off : Nat) (v : DataWord)
  | packI16 (off : Nat) (v : DataWord)
  | packI32 (off : Nat) (v : DataWord)
  | packU32 (off : Nat) (v : DataWord)
  | packF32 (off : Nat) (v : DataWord)
  | packFf16 (off : Nat) (v : DataWord)
  | packFf8 (off : Nat) (v : DataWord)
  | unpackU8 (off : Nat) (b : Buf)
  | unpackI16 (off : Nat) (b : Buf)
  | unpackI32 (off : Nat) (b : Buf)
  | unpackU32 (off : Nat) (b : Buf)
  | unpackF32 (off : Nat) (b : Buf)
  | unpackFf16 (off : Nat) (b : Buf)
  | xchg
  | hbWait (axis : Nat)
  deriving DecidableEq, Repr, Inhabited

/-- The 22 defined opcodes (30_encoding.md R67). -/
inductive Opcode where
  | nop | idEnc | idDec | bufClr | setDlc | setTimeout | setPolicy
  | packU8 | packI16 | packI32 | packU32 | packF32 | packFf16 | packFf8
  | unpackU8 | unpackI16 | unpackI32 | unpackU32 | unpackF32 | unpackFf16
  | xchg | hbWait
  deriving DecidableEq, Repr, Inhabited

/-- The seven formats of the command word (30_encoding.md R65). -/
inductive Format where
  | n | q | s | l | y | k | u
  deriving DecidableEq, Repr, Inhabited

/-- The opcode of an operation (30_encoding.md R67). -/
def Instr.opcode : Instr → Opcode
  | .nop => .nop
  | .idEnc _ _ _ => .idEnc
  | .idDec _ => .idDec
  | .bufClr => .bufClr
  | .setDlc _ => .setDlc
  | .setTimeout _ => .setTimeout
  | .setPolicy _ => .setPolicy
  | .packU8 _ _ => .packU8
  | .packI16 _ _ => .packI16
  | .packI32 _ _ => .packI32
  | .packU32 _ _ => .packU32
  | .packF32 _ _ => .packF32
  | .packFf16 _ _ => .packFf16
  | .packFf8 _ _ => .packFf8
  | .unpackU8 _ _ => .unpackU8
  | .unpackI16 _ _ => .unpackI16
  | .unpackI32 _ _ => .unpackI32
  | .unpackU32 _ _ => .unpackU32
  | .unpackF32 _ _ => .unpackF32
  | .unpackFf16 _ _ => .unpackFf16
  | .xchg => .xchg
  | .hbWait _ => .hbWait

end Sys2Proof
end

