-- ==== Sys2Proof/WellFormed.lean ====
section
/-! DEFINITION. Which instructions have an encoding: every operand fits its field
(30_encoding.md R65, R66). A value that fits its field but fails a run-time check (an axis above
63, a length above 8, a field past the buffer's end) is well-formed: it encodes, and the operation
reports it when it runs (R71). -/

namespace Sys2Proof

/-- A byte offset fits the 3-bit field OFF (30_encoding.md R66). -/
def offsetFits (off : Nat) : Bool := off < 8

/-- A length fits the 4-bit field LEN (30_encoding.md R66). -/
def lengthFits (len : Nat) : Bool := len < 16

/-- An axis or command id fits its 16-bit half of the data word (30_encoding.md R66). -/
def halfFits (n : Nat) : Bool := n < 65536

/-- Every operand of the instruction fits its field. -/
def Instr.wellFormed : Instr → Bool
  | .nop => true
  | .idEnc _ axis cid => halfFits axis && halfFits cid
  | .idDec _ => true
  | .bufClr => true
  | .setDlc len => lengthFits len
  | .setTimeout _ => true
  | .setPolicy _ => true
  | .packU8 off _ => offsetFits off
  | .packI16 off _ => offsetFits off
  | .packI32 off _ => offsetFits off
  | .packU32 off _ => offsetFits off
  | .packF32 off _ => offsetFits off
  | .packFf16 off _ => offsetFits off
  | .packFf8 off _ => offsetFits off
  | .unpackU8 off _ => offsetFits off
  | .unpackI16 off _ => offsetFits off
  | .unpackI32 off _ => offsetFits off
  | .unpackU32 off _ => offsetFits off
  | .unpackF32 off _ => offsetFits off
  | .unpackFf16 off _ => offsetFits off
  | .xchg => true
  | .hbWait axis => halfFits axis

end Sys2Proof
end

