-- ==== Sys2Proof/Decode.lean ====
section
/-! DEFINITION. The decoder and the encoder of command words (30_encoding.md R65 to R70).
An operation is one 16-bit command word and one 32-bit data word; decoding is total, and a word
that is no operation is rejected by name. -/

namespace Sys2Proof

/-- Why a command word is ILLEGAL (30_encoding.md R68, R69). -/
inductive Illegal where
  /-- one of the 10 reserved opcodes of R67 -/
  | reservedOpcode
  /-- a bit that R65 marks 0 for the opcode's format is 1 -/
  | reservedBit
  /-- ID_DEC with SRC = 3 -/
  | idDecSource3
  deriving DecidableEq, Repr, Inhabited

/-- What the decoder answers: an operation, or ILLEGAL with its reason. -/
inductive Decoded where
  | op (i : Instr)
  | illegal (why : Illegal)
  deriving DecidableEq, Repr, Inhabited

/-- The opcode of the 5-bit field OPC, none for the reserved values (30_encoding.md R67). -/
def opcodeOfBits (opc : BitVec 5) : Option Opcode :=
  match opc.toNat with
  | 0 => some .nop
  | 1 => some .idEnc
  | 2 => some .idDec
  | 3 => some .bufClr
  | 4 => some .setDlc
  | 5 => some .setTimeout
  | 6 => some .setPolicy
  | 8 => some .packU8
  | 9 => some .packI16
  | 10 => some .packI32
  | 11 => some .packU32
  | 12 => some .packF32
  | 13 => some .packFf16
  | 14 => some .packFf8
  | 16 => some .unpackU8
  | 17 => some .unpackI16
  | 18 => some .unpackI32
  | 19 => some .unpackU32
  | 20 => some .unpackF32
  | 21 => some .unpackFf16
  | 24 => some .xchg
  | 25 => some .hbWait
  | _ => none

/-- The format of an opcode (30_encoding.md R67). -/
def Opcode.format : Opcode → Format
  | .nop => .n
  | .idEnc => .q
  | .idDec => .s
  | .bufClr => .n
  | .setDlc => .l
  | .setTimeout => .n
  | .setPolicy => .y
  | .packU8 => .k
  | .packI16 => .k
  | .packI32 => .k
  | .packU32 => .k
  | .packF32 => .k
  | .packFf16 => .k
  | .packFf8 => .k
  | .unpackU8 => .u
  | .unpackI16 => .u
  | .unpackI32 => .u
  | .unpackU32 => .u
  | .unpackF32 => .u
  | .unpackFf16 => .u
  | .xchg => .n
  | .hbWait => .n

/-- The bits of cmd[10:0] that must be 0 in a format (the zeros of the table of 30_encoding.md R65). -/
def Format.reservedMask : Format → CmdWord
  | .n => 0x07FF
  | .q => 0x07FE
  | .s => 0x07FC
  | .l => 0x07F0
  | .y => 0x07FE
  | .k => 0x00FF
  | .u => 0x007F

/-- The field OPC = cmd[15:11] (30_encoding.md R65). -/
def opcField (cmd : CmdWord) : BitVec 5 := cmd.extractLsb' 11 5

/-- The field OFF = u(cmd[10:8]), not scaled (30_encoding.md R66). -/
def offField (cmd : CmdWord) : Nat := (cmd.extractLsb' 8 3).toNat

/-- The field B = cmd[7] as the buffer it selects (42_unpack.md R87). -/
def bufField (cmd : CmdWord) : Buf := if cmd.getLsbD 7 then .tx else .rx

/-- The field LEN = u(cmd[3:0]) (30_encoding.md R66). -/
def lenField (cmd : CmdWord) : Nat := (cmd.extractLsb' 0 4).toNat

/-- The bit cmd[0], which is Q in format Q and Y in format Y (30_encoding.md R65). -/
def bit0Field (cmd : CmdWord) : Bool := cmd.getLsbD 0

/-- u(data[31:16]), the axis of ID_ENC and of HB_WAIT (30_encoding.md R66). -/
def highHalf (data : DataWord) : Nat := (data.extractLsb' 16 16).toNat

/-- u(data[15:0]), the command id of ID_ENC (30_encoding.md R66). -/
def lowHalf (data : DataWord) : Nat := (data.extractLsb' 0 16).toNat

/-- ID_DEC by its field SRC = u(cmd[1:0]); 3 is ILLEGAL (30_encoding.md R68, 40_frame.md R76). -/
def decodeIdDec (cmd : CmdWord) (data : DataWord) : Decoded :=
  match (cmd.extractLsb' 0 2).toNat with
  | 0 => .op (.idDec (.value data))
  | 1 => .op (.idDec .rx)
  | 2 => .op (.idDec .frame)
  | _ => .illegal .idDecSource3

/-- The operands of a word whose reserved bits are 0 (30_encoding.md R66). -/
def decodeFields (o : Opcode) (cmd : CmdWord) (data : DataWord) : Decoded :=
  match o with
  | .nop => .op .nop
  | .idEnc => .op (.idEnc (bit0Field cmd) (highHalf data) (lowHalf data))
  | .idDec => decodeIdDec cmd data
  | .bufClr => .op .bufClr
  | .setDlc => .op (.setDlc (lenField cmd))
  | .setTimeout => .op (.setTimeout data)
  | .setPolicy => .op (.setPolicy (bit0Field cmd))
  | .packU8 => .op (.packU8 (offField cmd) data)
  | .packI16 => .op (.packI16 (offField cmd) data)
  | .packI32 => .op (.packI32 (offField cmd) data)
  | .packU32 => .op (.packU32 (offField cmd) data)
  | .packF32 => .op (.packF32 (offField cmd) data)
  | .packFf16 => .op (.packFf16 (offField cmd) data)
  | .packFf8 => .op (.packFf8 (offField cmd) data)
  | .unpackU8 => .op (.unpackU8 (offField cmd) (bufField cmd))
  | .unpackI16 => .op (.unpackI16 (offField cmd) (bufField cmd))
  | .unpackI32 => .op (.unpackI32 (offField cmd) (bufField cmd))
  | .unpackU32 => .op (.unpackU32 (offField cmd) (bufField cmd))
  | .unpackF32 => .op (.unpackF32 (offField cmd) (bufField cmd))
  | .unpackFf16 => .op (.unpackFf16 (offField cmd) (bufField cmd))
  | .xchg => .op .xchg
  | .hbWait => .op (.hbWait (highHalf data))

/-- Decoding, total on every command word (30_encoding.md R68). -/
def decode (cmd : CmdWord) (data : DataWord) : Decoded :=
  match opcodeOfBits (opcField cmd) with
  | none => .illegal .reservedOpcode
  | some o =>
    if cmd &&& o.format.reservedMask = 0 then decodeFields o cmd data
    else .illegal .reservedBit

/-! ## The encoder -/

/-- The field OPC of an opcode (30_encoding.md R67). -/
def Opcode.bits : Opcode → BitVec 5
  | .nop => 0b00000
  | .idEnc => 0b00001
  | .idDec => 0b00010
  | .bufClr => 0b00011
  | .setDlc => 0b00100
  | .setTimeout => 0b00101
  | .setPolicy => 0b00110
  | .packU8 => 0b01000
  | .packI16 => 0b01001
  | .packI32 => 0b01010
  | .packU32 => 0b01011
  | .packF32 => 0b01100
  | .packFf16 => 0b01101
  | .packFf8 => 0b01110
  | .unpackU8 => 0b10000
  | .unpackI16 => 0b10001
  | .unpackI32 => 0b10010
  | .unpackU32 => 0b10011
  | .unpackF32 => 0b10100
  | .unpackFf16 => 0b10101
  | .xchg => 0b11000
  | .hbWait => 0b11001

/-- The bit B of a buffer (42_unpack.md R87). -/
def Buf.bit : Buf → Bool
  | .rx => false
  | .tx => true

/-- The field SRC (40_frame.md R76). -/
def IdSrc.bits : IdSrc → BitVec 2
  | .value _ => 0
  | .rx => 1
  | .frame => 2

/-- cmd[10:0] of format K: OFF in [10:8], zeros below (30_encoding.md R65). -/
def packFields (off : Nat) : BitVec 11 := BitVec.ofNat 3 off ++ 0#8

/-- cmd[10:0] of format U: OFF in [10:8], B in [7], zeros below (30_encoding.md R65). -/
def unpackFields (off : Nat) (b : Buf) : BitVec 11 :=
  BitVec.ofNat 3 off ++ BitVec.ofBool b.bit ++ 0#7

/-- cmd[10:0] of an instruction (30_encoding.md R65). -/
def Instr.fieldBits : Instr → BitVec 11
  | .nop => 0
  | .idEnc q _ _ => 0#10 ++ BitVec.ofBool q
  | .idDec src => 0#9 ++ src.bits
  | .bufClr => 0
  | .setDlc len => 0#7 ++ BitVec.ofNat 4 len
  | .setTimeout _ => 0
  | .setPolicy y => 0#10 ++ BitVec.ofBool y
  | .packU8 off _ => packFields off
  | .packI16 off _ => packFields off
  | .packI32 off _ => packFields off
  | .packU32 off _ => packFields off
  | .packF32 off _ => packFields off
  | .packFf16 off _ => packFields off
  | .packFf8 off _ => packFields off
  | .unpackU8 off b => unpackFields off b
  | .unpackI16 off b => unpackFields off b
  | .unpackI32 off b => unpackFields off b
  | .unpackU32 off b => unpackFields off b
  | .unpackF32 off b => unpackFields off b
  | .unpackFf16 off b => unpackFields off b
  | .xchg => 0
  | .hbWait _ => 0

/-- The data word of an instruction (30_encoding.md R66, R71): its operand where it has one,
0 where the data word is ignored. -/
def Instr.dataBits : Instr → DataWord
  | .nop => 0
  | .idEnc _ axis cid => BitVec.ofNat 16 axis ++ BitVec.ofNat 16 cid
  | .idDec (.value v) => v
  | .idDec .rx => 0
  | .idDec .frame => 0
  | .bufClr => 0
  | .setDlc _ => 0
  | .setTimeout ms => ms
  | .setPolicy _ => 0
  | .packU8 _ v => v
  | .packI16 _ v => v
  | .packI32 _ v => v
  | .packU32 _ v => v
  | .packF32 _ v => v
  | .packFf16 _ v => v
  | .packFf8 _ v => v
  | .unpackU8 _ _ => 0
  | .unpackI16 _ _ => 0
  | .unpackI32 _ _ => 0
  | .unpackU32 _ _ => 0
  | .unpackF32 _ _ => 0
  | .unpackFf16 _ _ => 0
  | .xchg => 0
  | .hbWait axis => BitVec.ofNat 16 axis ++ 0#16

/-- The command word and the data word of an instruction (30_encoding.md R65 to R67). -/
def encode (i : Instr) : CmdWord × DataWord := (i.opcode.bits ++ i.fieldBits, i.dataBits)

/-! ## The table's numbering of bits -/

/-- The command word in an operation numbered as one number: bits [15:0] (log entry 10). -/
def tableCmd (nbits w : Nat) : CmdWord := BitVec.ofNat 16 (w % 2 ^ nbits)

/-- The data word in an operation numbered as one number: bits [47:16], 0 where `nbits` ends before
them (log entry 10). -/
def tableData (nbits w : Nat) : DataWord := BitVec.ofNat 32 (w % 2 ^ nbits / 2 ^ 16)

/-- The instruction the decoder reads from an operation whose bits are `w`, numbered as
opcode_table.json numbers them, every bit from `nbits` on being 0. -/
def decodeTableWord (nbits w : Nat) : Option Instr :=
  match decode (tableCmd nbits w) (tableData nbits w) with
  | .op i => some i
  | .illegal _ => none

end Sys2Proof
end

