-- ==== Sys2Proof/Config.lean ====
section
/-! DEFINITION. What an implementation and its environment fix: the named parameters of
00_scope.md R9, the input ports of one clock cycle (10_state.md R16 to R20), and the free inputs of
the cycles nothing has scheduled. -/

namespace Sys2Proof

/-- The parameter FF_MUL, the arithmetic of the feed-forward product (00_scope.md R9,
41_pack.md R84). -/
inductive FfMul where
  /-- binary32 product, roundTiesToEven -/
  | b32Rne
  /-- exact real product -/
  | exact
  deriving DecidableEq, Repr, Inhabited

/-- The named parameters the model takes as arguments (00_scope.md R9). DESIGN CHOICE: they stand in
`State` as plain data that no step changes (log entry 3). -/
structure Config where
  /-- FF_MUL, default B32_RNE (R9) -/
  ffMul : FfMul := .b32Rne
  /-- TICK_PERIOD in microseconds, nominally 1 ms; read by no rule (R9) and by no step (log entry 4) -/
  tickPeriodUs : Nat := 1000
  deriving DecidableEq, Repr, Inhabited

/-- The input ports as sampled at one rising edge of `clk` (10_state.md R16 to R20). -/
structure Inputs where
  /-- synchronous reset, active high (R20) -/
  rst : Bool := false
  /-- the host offers an operation (R16) -/
  cmdValid : Bool := false
  /-- the command word (R16) -/
  cmd : CmdWord := 0
  /-- the operand word (R16) -/
  data : DataWord := 0
  /-- the transport answers in this cycle (R18) -/
  txReady : Bool := false
  /-- the transport took the frame (R18) -/
  txOk : Bool := false
  /-- the transport offers one received frame (R19) -/
  rxValid : Bool := false
  /-- its identifier (R19) -/
  rxId : CanId := 0
  /-- its RTR flag (R19) -/
  rxRtr : Bool := false
  /-- its DLC, 0..15 as on the wire (R19) -/
  rxDlc : BitVec 4 := 0
  /-- its payload, byte i on bits [8i+7:8i] (R19, 20_memory.md R45) -/
  rxData : BitVec 64 := 0
  /-- one millisecond of the platform's clock has passed (R20) -/
  msTick : Bool := false
  deriving DecidableEq, Repr, Inhabited

/-- FREE VALUE: the inputs of a cycle that no scheduled input covers, applied to the cycle counter.
10_state.md R14 lets the environment drive any value; nothing is known of this function
(log entry 1). -/
opaque Config.freeInputs : Nat → Inputs

end Sys2Proof
end

