-- ==== Sys2Proof/Machine/State.lean ====
section
/-! DEFINITION. The state of the block (10_state.md R21 to R37), its reset value (R40), and the
reasons a step can stop. -/

namespace Sys2Proof.Machine

/-- A payload buffer as (offset, byte) cells in one canonical form: offsets strictly rising, all
below 8, no cell equal to what an unlisted offset reads as (log entry 5). -/
abbrev Memory := List Host.Cell

/-- The states of the exchange engine (10_state.md R35). -/
inductive Fsm where
  | idle
  | tx
  | waitRsp
  | waitHb
  deriving DecidableEq, Repr, Inhabited

/-- The result codes (60_exceptions.md R111). -/
inductive Code where
  | ok | timeout | defaulted | errAxis | errCmd | errId | errDlc | errOffset | errRange | errSend
  | illegal | errNoFrame
  deriving DecidableEq, Repr, Inhabited

/-- The reasons a step can stop with a fault. -/
inductive Fault where
  /-- Raised by `Memory.load` and `Memory.store` for a field that ends past offset 7, where
  00_scope.md R11 leaves MemRead and MemWrite undefined. Safe: it stops, and every caller checks the
  offset first (20_memory.md R47), so no operation reaches it (log entry 6). -/
  | outsideBuffer
  deriving DecidableEq, Repr, Inhabited

/-- The reasons a step can be refused. -/
inductive Refusal where
  /-- Raised by `exec` for an operation that has no meaning yet; no arm raises it in this model.
  Safe: it stops. -/
  | notModelled (mnemonic : String)
  deriving DecidableEq, Repr, Inhabited

/-- Every register of the block (10_state.md R40), and three fields of the model: the parameters, the
scheduled inputs, and the counter the free inputs are applied to. -/
structure State where
  /-- FRAME_ID (R21) -/
  frameId : CanId
  /-- FRAME_RTR (R22) -/
  frameRtr : Bool
  /-- FRAME_VALID (R23) -/
  frameValid : Bool
  /-- FRAME_DLC (R24) -/
  frameDlc : BitVec 4
  /-- TX_BUF[0..7] (R25) -/
  txBuf : Memory
  /-- RX_ID (R26) -/
  rxId : CanId
  /-- RX_RTR (R27) -/
  rxRtr : Bool
  /-- RX_DLC (R28) -/
  rxDlc : BitVec 4
  /-- RX_BUF[0..7] (R29) -/
  rxBuf : Memory
  /-- RESULT (R30) -/
  result : DataWord
  /-- LAST_CODE (R31), the code's number as the port shows it -/
  lastCode : BitVec 4
  /-- RSP_V (R32) -/
  rspV : Bool
  /-- TIMEOUT_MS (R33) -/
  timeoutMs : BitVec 16
  /-- SILENT (R34) -/
  silent : Bool
  /-- FSM (R35) -/
  fsm : Fsm
  /-- TICK_CNT (R36) -/
  tickCnt : BitVec 16
  /-- WAIT_ID (R37) -/
  waitId : CanId
  /-- the model's own: the parameters of 00_scope.md R9 (log entries 3 and 4) -/
  cfg : Config
  /-- the model's own: the inputs of the coming cycles, the present cycle's first (log entry 1) -/
  inputs : List Inputs
  /-- the model's own: the cycles that have passed (log entry 1) -/
  cycle : Nat
  deriving DecidableEq, Repr

/-- The block right after reset: every register at the value of 10_state.md R40; the parameters at
the defaults of 00_scope.md R9; nothing scheduled. -/
def State.reset : State where
  frameId := 0
  frameRtr := false
  frameValid := false
  frameDlc := 0
  txBuf := []
  rxId := 0
  rxRtr := false
  rxDlc := 0
  rxBuf := []
  result := 0
  lastCode := 0
  rspV := false
  timeoutMs := 5
  silent := false
  fsm := .idle
  tickCnt := 0
  waitId := 0
  cfg := {}
  inputs := []
  cycle := 0

end Sys2Proof.Machine
end

