-- ==== Sys2Proof/Machine/Float.lean ====
section
/-! DEFINITION. binary32 arithmetic (00_scope.md R13) and the feed-forward scaling function
(41_pack.md R84). PRESUMED: IEEE 754 binary32 and roundTiesToEven, which the spec itself takes from
general knowledge (log entry 7). All arithmetic is exact on natural numbers and narrowed at the end;
the unit of a magnitude is 2^-149, the smallest subnormal. -/

namespace Sys2Proof.Machine

/-- The sign bit. -/
def B32.sign (x : DataWord) : Bool := x.getLsbD 31

/-- The exponent field, bits [30:23]. -/
def B32.expField (x : DataWord) : Nat := (x.extractLsb' 23 8).toNat

/-- The fraction field, bits [22:0]. -/
def B32.fracField (x : DataWord) : Nat := (x.extractLsb' 0 23).toNat

/-- Exponent all ones, fraction not zero. -/
def B32.isNaN (x : DataWord) : Bool := B32.expField x == 255 && B32.fracField x != 0

/-- Exponent all ones, fraction zero. -/
def B32.isInf (x : DataWord) : Bool := B32.expField x == 255 && B32.fracField x == 0

/-- The number of units 2^-149 in 1.0. -/
def B32.one : Nat := 2 ^ 149

/-- The magnitude of a finite value in units of 2^-149. -/
def B32.magnitude (x : DataWord) : Nat :=
  if B32.expField x = 0 then B32.fracField x
  else (2 ^ 23 + B32.fracField x) * 2 ^ (B32.expField x - 1)

/-- A pattern from a sign and bits [30:0]. -/
def B32.pattern (neg : Bool) (mag : Nat) : DataWord := BitVec.ofBool neg ++ BitVec.ofNat 31 mag

/-- Bits [30:0] of infinity. -/
def B32.infMagnitude : Nat := 0x7F800000

/-- How far the significand of the quotient `p / q` (in units of 2^-149) must be shifted so that it
keeps 24 bits; 0 for subnormal results. -/
def B32.shift (p q : Nat) : Nat := Nat.log2 (p / q) - 23

/-- The quotient `p / d` rounded to an integer, ties to even. -/
def B32.nearestEven (p d : Nat) : Nat :=
  if 2 * (p % d) > d ∨ (2 * (p % d) = d ∧ p / d % 2 = 1) then p / d + 1 else p / d

/-- roundTiesToEven: bits [30:0] of the binary32 nearest the magnitude `p / q` units of 2^-149,
infinity past the largest finite value. A shift adds one to the exponent field for each bit, and a
significand that rounds up to 2^24 carries into it. -/
def B32.round (p q : Nat) : Nat :=
  min (B32.shift p q * 2 ^ 23 + B32.nearestEven p (q * 2 ^ B32.shift p q)) B32.infMagnitude

/-- `mul_rne` of two finite values (00_scope.md R13). -/
def B32.mulRne (x y : DataWord) : DataWord :=
  B32.pattern (B32.sign x != B32.sign y) (B32.round (B32.magnitude x * B32.magnitude y) B32.one)

/-- `div_rne` of a finite value by a finite value other than zero (00_scope.md R13). -/
def B32.divRne (x y : DataWord) : DataWord :=
  B32.pattern (B32.sign x != B32.sign y) (B32.round (B32.magnitude x * B32.one) (B32.magnitude y))

/-- An integer as a binary32 value, +0.0 for 0; exact for every 16-bit integer (42_unpack.md R93). -/
def B32.ofInt (n : Int) : DataWord :=
  B32.pattern (n < 0) (B32.round (n.natAbs * B32.one) 1)

/-- 1000.0, the feed-forward scale factor (00_scope.md R7). -/
def B32.thousand : DataWord := 0x447A0000

/-- An integer from a sign and a magnitude. -/
def signed (neg : Bool) (mag : Nat) : Int := if neg then -(mag : Int) else (mag : Int)

/-- `trunc` of a finite value: toward zero (00_scope.md R10). -/
def B32.trunc (x : DataWord) : Int := signed (B32.sign x) (B32.magnitude x / B32.one)

/-- `trunc(p)` of the feed-forward product of a finite value, none where the product is infinite
(41_pack.md R84). -/
def ffProduct (mode : FfMul) (x : DataWord) : Option Int :=
  match mode with
  | .b32Rne =>
    if B32.isInf (B32.mulRne x B32.thousand) then none
    else some (B32.trunc (B32.mulRne x B32.thousand))
  | .exact => some (signed (B32.sign x) (B32.magnitude x * 1000 / B32.one))

/-- The range check and the narrowing of `ffscale` (41_pack.md R84). -/
def narrow16 (n : Int) : Option (BitVec 16) :=
  if n < -32768 ∨ n > 32767 then none else some (BitVec.ofInt 16 n)

/-- `ffscale(x)`, none for FAIL (41_pack.md R84). -/
def ffscale (mode : FfMul) (x : DataWord) : Option (BitVec 16) :=
  if B32.isNaN x || B32.isInf x then none
  else match ffProduct mode x with
    | none => none
    | some n => narrow16 n

/-- A signed 16-bit feed-forward divided by 1000, as a binary32 pattern (42_unpack.md R93). -/
def ffUnscale (n : BitVec 16) : DataWord := B32.divRne (B32.ofInt n.toInt) B32.thousand

end Sys2Proof.Machine
end

