-- ==== Sys2Proof/Machine/Flags.lean ====
section
/-! DEFINITION. The flag-like state of the block (10_state.md R39): the numbers of the result codes
and of the states of the engine, and the code a timeout completes with. -/

namespace Sys2Proof.Machine

/-- The number of a result code in LAST_CODE (60_exceptions.md R111). -/
def Code.bits : Code → BitVec 4
  | .ok => 0
  | .timeout => 1
  | .defaulted => 2
  | .errAxis => 3
  | .errCmd => 4
  | .errId => 5
  | .errDlc => 6
  | .errOffset => 7
  | .errRange => 8
  | .errSend => 9
  | .illegal => 10
  | .errNoFrame => 11

/-- The number of a state of the engine in FSM (10_state.md R35). -/
def Fsm.bits : Fsm → BitVec 2
  | .idle => 0
  | .tx => 1
  | .waitRsp => 2
  | .waitHb => 3

/-- `timeout_code()` (43_exchange.md R98): TIMEOUT, or DEFAULTED where SILENT = 1. -/
def timeoutCode (s : State) : Code := if s.silent then .defaulted else .timeout

end Sys2Proof.Machine
end

