-- ==== Sys2Proof/Machine/Ops.lean ====
section
/-! DEFINITION. The named operations over the buffers and the registers: MemRead and MemWrite
(00_scope.md R11), completion and raising a failure (R12, which take the place of taking an exception:
60_exceptions.md R115), the register updates the operations share, and the capture of a frame. -/

namespace Sys2Proof.Machine

/-! ## The buffers -/

/-- What an offset that no cell lists reads as: the reset byte of both buffers (10_state.md R40). -/
def unlistedByte : Byte := 0

/-- The number of bytes of a buffer (20_memory.md R41). -/
def bufferSize : Nat := 8

/-- One byte of a buffer. -/
def Memory.readByte : Memory → Nat → Byte
  | [], _ => unlistedByte
  | (c, d) :: rest, a => if c = a then d else Memory.readByte rest a

/-- Put a cell before the first one with a larger offset. -/
def Memory.insertCell : Memory → Nat → Byte → Memory
  | [], a, b => [(a, b)]
  | (c, d) :: rest, a, b =>
    if a < c then (a, b) :: (c, d) :: rest else (c, d) :: Memory.insertCell rest a b

/-- The buffer without the cell of one offset. -/
def Memory.drop (m : Memory) (a : Nat) : Memory := m.filter fun cell => cell.1 ≠ a

/-- Write one byte of a buffer, keeping the canonical form: writing the unlisted byte removes the
cell. -/
def Memory.writeByte (m : Memory) (a : Nat) (b : Byte) : Memory :=
  if b = unlistedByte then Memory.drop m a else Memory.insertCell (Memory.drop m a) a b

/-- The canonical form from an offset on: rising offsets inside the buffer, no unlisted byte. -/
def Memory.wfFrom (lo : Nat) : Memory → Bool
  | [] => true
  | (a, b) :: rest =>
    lo ≤ a && a < bufferSize && b ≠ unlistedByte && Memory.wfFrom (a + 1) rest

/-- A buffer is in canonical form. -/
def Memory.wf (m : Memory) : Bool := Memory.wfFrom 0 m

/-- `n` bytes from offset `off` on as one unsigned little-endian integer (20_memory.md R43). -/
def Memory.readLE (m : Memory) (off : Nat) : Nat → Nat
  | 0 => 0
  | n + 1 => (Memory.readByte m off).toNat + 256 * Memory.readLE m (off + 1) n

/-- The low `n` bytes of an unsigned integer from offset `off` on, little-endian
(20_memory.md R43). -/
def Memory.writeLE (m : Memory) (off : Nat) : Nat → Nat → Memory
  | 0, _ => m
  | n + 1, v => Memory.writeLE (Memory.writeByte m off (BitVec.ofNat 8 v)) (off + 1) n (v / 256)

/-- `u(MemRead(B, off, n))` (00_scope.md R11), defined only inside the buffer. -/
def Memory.load (m : Memory) (off n : Nat) : Option Nat :=
  if off + n ≤ bufferSize then some (Memory.readLE m off n) else none

/-- `MemWrite(B, off, n, v)` (00_scope.md R11), defined only inside the buffer. -/
def Memory.store (m : Memory) (off n v : Nat) : Option Memory :=
  if off + n ≤ bufferSize then some (Memory.writeLE m off n v) else none

/-- A buffer with every byte 0x00 (40_frame.md R77, 43_exchange.md R96). -/
def Memory.zeroed : Memory := []

/-- The bytes of a received payload: byte `i` of the port is bits [8i+7:8i] (20_memory.md R45),
and bytes at index `d` and above are 0x00 (43_exchange.md R100). -/
def Memory.ofPayload (d : Nat) (payload : BitVec 64) : Memory :=
  Memory.writeLE Memory.zeroed 0 d payload.toNat

/-- A whole buffer as the 64 bits of a transport port (20_memory.md R45). -/
def Memory.toPayload (m : Memory) : BitVec 64 := BitVec.ofNat 64 (Memory.readLE m 0 bufferSize)

/-! ## The cycle -/

/-- The inputs of the present cycle: the scheduled ones, else free ones (log entry 1). -/
def State.now (s : State) : Inputs :=
  match s.inputs with
  | [] => Config.freeInputs s.cycle
  | i :: _ => i

/-- What every cycle does before its branch: `RSP_V <- 0` (43_exchange.md R108), and in the model's
own fields the cycle's inputs are used up (log entry 1). -/
def State.beginCycle (s : State) : State :=
  { s with rspV := false, inputs := s.inputs.tail, cycle := s.cycle + 1 }

/-- Reset: every register takes its reset value (70_reset_and_hazards.md R122). The parameters and
the environment's inputs are no registers and stay (log entry 11). -/
def State.resetRegisters (s : State) : State :=
  { State.reset with cfg := s.cfg, inputs := s.inputs, cycle := s.cycle }

/-! ## Completion -/

/-- `complete(code)` (00_scope.md R12): the one way an operation ends, well or badly. -/
def State.complete (s : State) (c : Code) : State :=
  { s with lastCode := c.bits, rspV := true, fsm := .idle }

/-- `complete(OK)` as the outcome of an operation. -/
def succeed (s : State) : Host.Outcome State Fault Refusal := .next (s.complete .ok)

/-- `raise ERR_X` (00_scope.md R12): completion with a failure code and no other state written. -/
def raise (c : Code) (s : State) : Host.Outcome State Fault Refusal := .next (s.complete c)

/-! ## Register updates -/

/-- The three registers ID_ENC writes (40_frame.md R75). -/
def State.setHeader (s : State) (id : CanId) (rtr : Bool) : State :=
  { s with frameId := id, frameRtr := rtr, frameValid := true }

/-- `FRAME_DLC <- LEN` (40_frame.md R78). -/
def State.setDlc (s : State) (len : BitVec 4) : State := { s with frameDlc := len }

/-- The whole of TX_BUF (10_state.md R25). -/
def State.setTxBuf (s : State) (m : Memory) : State := { s with txBuf := m }

/-- `RESULT <- v` (10_state.md R30). -/
def State.setResult (s : State) (v : DataWord) : State := { s with result := v }

/-- `TIMEOUT_MS <- v` (43_exchange.md R94). -/
def State.setTimeout (s : State) (v : BitVec 16) : State := { s with timeoutMs := v }

/-- `SILENT <- Y` (43_exchange.md R95). -/
def State.setSilent (s : State) (y : Bool) : State := { s with silent := y }

/-- The reply buffer starts zeroed: RX_BUF and RX_DLC (43_exchange.md R96, R104). -/
def State.clearReply (s : State) : State := { s with rxBuf := Memory.zeroed, rxDlc := 0 }

/-- `WAIT_ID <- id; FSM <- f` (43_exchange.md R96, R104). -/
def State.startWait (s : State) (id : CanId) (f : Fsm) : State := { s with waitId := id, fsm := f }

/-- `TICK_CNT <- 0; FSM <- WAIT_RSP` (43_exchange.md R97). -/
def State.startReplyWait (s : State) : State := { s with tickCnt := 0, fsm := .waitRsp }

/-- `TICK_CNT <- TICK_CNT + 1` (43_exchange.md R102). -/
def State.countTick (s : State) : State := { s with tickCnt := s.tickCnt + 1 }

/-! ## Received frames -/

/-- A received length capped at 8: `min(u(rx_dlc), 8)` (43_exchange.md R100). -/
def cappedDlc (dlc : BitVec 4) : Nat := min dlc.toNat bufferSize

/-- Capture (43_exchange.md R100). -/
def State.capture (s : State) (i : Inputs) : State :=
  { s with
    rxId := i.rxId
    rxRtr := i.rxRtr
    rxDlc := BitVec.ofNat 4 (cappedDlc i.rxDlc)
    rxBuf := Memory.ofPayload (cappedDlc i.rxDlc) i.rxData }

/-- A matching frame is consumed in this cycle of a wait state (43_exchange.md R99): only the
identifier is compared. -/
def matchingFrame (i : Inputs) (s : State) : Bool := i.rxValid && i.rxId == s.waitId

end Sys2Proof.Machine
end

