-- ==== Sys2Proof/Machine/Operands.lean ====
section
/-! DEFINITION. The operand forms of the operations: fields of a buffer with their bounds check
(20_memory.md R46, R47), the buffer an UNPACK reads (42_unpack.md R87), and the composition and
decomposition of identifiers (30_encoding.md R60). -/

namespace Sys2Proof.Machine

/-- `off + n <= 8` (20_memory.md R47). -/
def fieldFits (off n : Nat) : Bool := off + n ≤ bufferSize

/-- The buffer of an UNPACK: RX_BUF for B = 0, TX_BUF for B = 1 (42_unpack.md R87). -/
def State.buffer (s : State) : Buf → Memory
  | .rx => s.rxBuf
  | .tx => s.txBuf

/-- Store a field of `n` bytes in TX_BUF and complete (41_pack.md); the bounds are checked by the
caller. -/
def storeField (off n v : Nat) (s : State) : Host.Outcome State Fault Refusal :=
  match s.txBuf.store off n v with
  | some m => succeed (s.setTxBuf m)
  | none => .fault .outsideBuffer

/-- PACK of a plain field: the bounds check, then the store (41_pack.md, common operands). -/
def packField (off n v : Nat) (s : State) : Host.Outcome State Fault Refusal :=
  if fieldFits off n then storeField off n v s else raise .errOffset s

/-- PACK of a scaled feed-forward: the bounds check before the range check (41_pack.md R85, R86;
60_exceptions.md R114), then the low `n` bytes of the 16-bit value. -/
def packScaled (off n : Nat) (x : DataWord) (s : State) : Host.Outcome State Fault Refusal :=
  if fieldFits off n then
    match ffscale s.cfg.ffMul x with
    | none => raise .errRange s
    | some v => storeField off n v.toNat s
  else raise .errOffset s

/-- UNPACK of a field of `n` bytes: the bounds check, then RESULT from the unsigned integer the
field holds (42_unpack.md R87). -/
def unpackField (off n : Nat) (b : Buf) (value : Nat → DataWord) (s : State) :
    Host.Outcome State Fault Refusal :=
  if fieldFits off n then
    match (s.buffer b).load off n with
    | some v => succeed (s.setResult (value v))
    | none => .fault .outsideBuffer
  else raise .errOffset s

/-- `(axis << 5) | cid`: axis in [10:5], command id in [4:0] (30_encoding.md R60). -/
def composeId (axis cid : Nat) : CanId := BitVec.ofNat 6 axis ++ BitVec.ofNat 5 cid

/-- The layout of RESULT after ID_DEC: axis in [31:16], command id in [15:0] (40_frame.md R76). -/
def decomposeId (id : CanId) : DataWord :=
  (id.extractLsb' 5 6).setWidth 16 ++ (id.extractLsb' 0 5).setWidth 16

/-- The identifier of an axis's heartbeat frame: `axis_id<<5 | 0x001` (43_exchange.md R104). -/
def heartbeatId (axis : Nat) : CanId := BitVec.ofNat 6 axis ++ 0b00001#5

end Sys2Proof.Machine
end

