-- ==== Sys2Proof/Machine/Exchange.lean ====
section
/-! DEFINITION. The exchange engine and the heartbeat wait (43_exchange.md): the two configuration
operations, the acceptance of XCHG and HB_WAIT, and the edges of the states TX, WAIT_RSP and WAIT_HB
in which those two go on. -/

namespace Sys2Proof.Machine

/-- SET_TIMEOUT (43_exchange.md R94). -/
def execSetTimeout (ms : DataWord) (s : State) : Host.Outcome State Fault Refusal :=
  if ms.extractLsb' 16 16 ≠ 0 then raise .errRange s
  else succeed (s.setTimeout (ms.extractLsb' 0 16))

/-- SET_POLICY (43_exchange.md R95). -/
def execSetPolicy (silent : Bool) (s : State) : Host.Outcome State Fault Refusal :=
  succeed (s.setSilent silent)

/-- XCHG at the accepting edge (43_exchange.md R96); it completes by `txEdge` or `waitRspEdge`. -/
def execXchg (s : State) : Host.Outcome State Fault Refusal :=
  if s.frameValid then
    .next ((if s.frameRtr then s.clearReply else s).startWait s.frameId .tx)
  else raise .errNoFrame s

/-- HB_WAIT at the accepting edge (43_exchange.md R104); it completes by `waitHbEdge`. -/
def execHbWait (axis : Nat) (s : State) : Host.Outcome State Fault Refusal :=
  if axis > 63 then raise .errAxis s
  else .next (s.clearReply.startWait (heartbeatId axis) .waitHb)

/-- An edge in TX (43_exchange.md R97). -/
def txEdge (i : Inputs) (s : State) : State :=
  if i.txReady then
    if !i.txOk then s.complete .errSend
    else if !s.frameRtr then s.complete .ok
    else if s.timeoutMs = 0 then s.complete (timeoutCode s)
    else s.startReplyWait
  else s

/-- One tick of the exchange timeout, as an integer sum (43_exchange.md R102). -/
def tickEdge (s : State) : State :=
  if s.tickCnt.toNat + 1 ≥ s.timeoutMs.toNat then s.complete (timeoutCode s) else s.countTick

/-- An edge in WAIT_RSP (43_exchange.md R102): a matching frame wins over an expiring tick; any
other consumed frame is discarded (R101). -/
def waitRspEdge (i : Inputs) (s : State) : State :=
  if matchingFrame i s then (s.capture i).complete .ok
  else if i.msTick then tickEdge s
  else s

/-- An edge in WAIT_HB (43_exchange.md R105): no timeout; any frame that does not match is
discarded (R101). -/
def waitHbEdge (i : Inputs) (s : State) : State :=
  if matchingFrame i s then (s.capture i).complete .ok else s

end Sys2Proof.Machine
end

