-- ==== Sys2Proof/Machine/Frame.lean ====
section
/-! DEFINITION. The frame and ID operations (40_frame.md). Each meaning is the effect of the
operation at the edge that accepts it (R73); the step gates acceptance (log entry 8). -/

namespace Sys2Proof.Machine

/-- NOP (40_frame.md R74). -/
def execNop (s : State) : Host.Outcome State Fault Refusal := succeed s

/-- ID_ENC (40_frame.md R75): the axis is checked before the command id (60_exceptions.md R114). -/
def execIdEnc (query : Bool) (axis cid : Nat) (s : State) : Host.Outcome State Fault Refusal :=
  if axis > 63 then raise .errAxis s
  else if cid > 31 then raise .errCmd s
  else succeed (s.setHeader (composeId axis cid) query)

/-- ID_DEC (40_frame.md R76). -/
def execIdDec (src : IdSrc) (s : State) : Host.Outcome State Fault Refusal :=
  match src with
  | .value v =>
    if v.extractLsb' 11 21 ≠ 0 then raise .errId s
    else succeed (s.setResult (decomposeId (v.extractLsb' 0 11)))
  | .rx => succeed (s.setResult (decomposeId s.rxId))
  | .frame => succeed (s.setResult (decomposeId s.frameId))

/-- BUF_CLR (40_frame.md R77). -/
def execBufClr (s : State) : Host.Outcome State Fault Refusal :=
  succeed ((s.setTxBuf Memory.zeroed).setDlc 0)

/-- SET_DLC (40_frame.md R78). -/
def execSetDlc (len : Nat) (s : State) : Host.Outcome State Fault Refusal :=
  if len > 8 then raise .errDlc s else succeed (s.setDlc (BitVec.ofNat 4 len))

end Sys2Proof.Machine
end

