-- ==== Sys2Proof/Machine/Pack.lean ====
section
/-! DEFINITION. The pack operations (41_pack.md). -/

namespace Sys2Proof.Machine

/-- PACK_U8 (41_pack.md R79): the low 8 bits, no range check. -/
def execPackU8 (off : Nat) (v : DataWord) (s : State) : Host.Outcome State Fault Refusal :=
  packField off 1 (v.extractLsb' 0 8).toNat s

/-- PACK_I16 (41_pack.md R80): the low 16 bits, no range check. -/
def execPackI16 (off : Nat) (v : DataWord) (s : State) : Host.Outcome State Fault Refusal :=
  packField off 2 (v.extractLsb' 0 16).toNat s

/-- PACK_I32 (41_pack.md R81). -/
def execPackI32 (off : Nat) (v : DataWord) (s : State) : Host.Outcome State Fault Refusal :=
  packField off 4 v.toNat s

/-- PACK_U32 (41_pack.md R82). -/
def execPackU32 (off : Nat) (v : DataWord) (s : State) : Host.Outcome State Fault Refusal :=
  packField off 4 v.toNat s

/-- PACK_F32 (41_pack.md R83): the pattern bit for bit, no normalisation. -/
def execPackF32 (off : Nat) (v : DataWord) (s : State) : Host.Outcome State Fault Refusal :=
  packField off 4 v.toNat s

/-- PACK_FF16 (41_pack.md R85): both bytes of the scaled value. -/
def execPackFf16 (off : Nat) (v : DataWord) (s : State) : Host.Outcome State Fault Refusal :=
  packScaled off 2 v s

/-- PACK_FF8 (41_pack.md R86): the low byte of the scaled value; the next byte is not written. -/
def execPackFf8 (off : Nat) (v : DataWord) (s : State) : Host.Outcome State Fault Refusal :=
  packScaled off 1 v s

end Sys2Proof.Machine
end

