-- ==== Sys2Proof/Machine/Unpack.lean ====
section
/-! DEFINITION. The unpack operations (42_unpack.md). -/

namespace Sys2Proof.Machine

/-- UNPACK_U8 (42_unpack.md R88): zero-extended. -/
def execUnpackU8 (off : Nat) (b : Buf) (s : State) : Host.Outcome State Fault Refusal :=
  unpackField off 1 b (fun v => (BitVec.ofNat 8 v).setWidth 32) s

/-- UNPACK_I16 (42_unpack.md R89): sign-extended. -/
def execUnpackI16 (off : Nat) (b : Buf) (s : State) : Host.Outcome State Fault Refusal :=
  unpackField off 2 b (fun v => (BitVec.ofNat 16 v).signExtend 32) s

/-- UNPACK_I32 (42_unpack.md R90): the two's-complement pattern as is. -/
def execUnpackI32 (off : Nat) (b : Buf) (s : State) : Host.Outcome State Fault Refusal :=
  unpackField off 4 b (fun v => BitVec.ofNat 32 v) s

/-- UNPACK_U32 (42_unpack.md R91). -/
def execUnpackU32 (off : Nat) (b : Buf) (s : State) : Host.Outcome State Fault Refusal :=
  unpackField off 4 b (fun v => BitVec.ofNat 32 v) s

/-- UNPACK_F32 (42_unpack.md R92): the pattern as is, no normalisation. -/
def execUnpackF32 (off : Nat) (b : Buf) (s : State) : Host.Outcome State Fault Refusal :=
  unpackField off 4 b (fun v => BitVec.ofNat 32 v) s

/-- UNPACK_FF16 (42_unpack.md R93): the signed field divided by 1000. -/
def execUnpackFf16 (off : Nat) (b : Buf) (s : State) : Host.Outcome State Fault Refusal :=
  unpackField off 2 b (fun v => ffUnscale (BitVec.ofNat 16 v)) s

end Sys2Proof.Machine
end

