-- ==== Sys2Proof/Machine/Dispatch.lean ====
section
/-! DEFINITION. The meaning of each operation at the edge that accepts it, one arm each. -/

namespace Sys2Proof.Machine

def exec (i : Instr) (s : State) : Host.Outcome State Fault Refusal :=
  match i with
  | .nop => Sys2Proof.Machine.execNop s
  | .idEnc query axis cid => Sys2Proof.Machine.execIdEnc query axis cid s
  | .idDec src => Sys2Proof.Machine.execIdDec src s
  | .bufClr => Sys2Proof.Machine.execBufClr s
  | .setDlc len => Sys2Proof.Machine.execSetDlc len s
  | .setTimeout ms => Sys2Proof.Machine.execSetTimeout ms s
  | .setPolicy silent => Sys2Proof.Machine.execSetPolicy silent s
  | .packU8 off v => Sys2Proof.Machine.execPackU8 off v s
  | .packI16 off v => Sys2Proof.Machine.execPackI16 off v s
  | .packI32 off v => Sys2Proof.Machine.execPackI32 off v s
  | .packU32 off v => Sys2Proof.Machine.execPackU32 off v s
  | .packF32 off v => Sys2Proof.Machine.execPackF32 off v s
  | .packFf16 off v => Sys2Proof.Machine.execPackFf16 off v s
  | .packFf8 off v => Sys2Proof.Machine.execPackFf8 off v s
  | .unpackU8 off b => Sys2Proof.Machine.execUnpackU8 off b s
  | .unpackI16 off b => Sys2Proof.Machine.execUnpackI16 off b s
  | .unpackI32 off b => Sys2Proof.Machine.execUnpackI32 off b s
  | .unpackU32 off b => Sys2Proof.Machine.execUnpackU32 off b s
  | .unpackF32 off b => Sys2Proof.Machine.execUnpackF32 off b s
  | .unpackFf16 off b => Sys2Proof.Machine.execUnpackFf16 off b s
  | .xchg => Sys2Proof.Machine.execXchg s
  | .hbWait axis => Sys2Proof.Machine.execHbWait axis s

end Sys2Proof.Machine
end

