-- ==== Sys2Proof/Machine/Ports.lean ====
section
/-! DEFINITION. The output ports of the block, functions of the registers and of `rst`
(10_state.md R16 to R19, 43_exchange.md R108). -/

namespace Sys2Proof.Machine

/-- The output ports in one cycle. -/
structure Outputs where
  /-- R16 -/
  cmdReady : Bool
  /-- R17 -/
  rspValid : Bool
  /-- R17 -/
  rspCode : BitVec 4
  /-- R17 -/
  result : DataWord
  /-- R17 -/
  busy : Bool
  /-- R18 -/
  txValid : Bool
  /-- R18 -/
  txId : CanId
  /-- R18 -/
  txRtr : Bool
  /-- R18 -/
  txDlc : BitVec 4
  /-- R18, byte i on bits [8i+7:8i] -/
  txData : BitVec 64
  /-- R19 -/
  rxReady : Bool
  deriving DecidableEq, Repr

/-- The engine is in one of the two wait states (10_state.md R19). -/
def Fsm.isWait : Fsm → Bool
  | .idle => false
  | .tx => false
  | .waitRsp => true
  | .waitHb => true

/-- The output ports in a cycle whose `rst` input is `rst` (43_exchange.md R108; `cmd_ready`,
`tx_valid` and `rx_ready` are gated by reset, 90_conflicts.md C8). -/
def State.outputs (s : State) (rst : Bool) : Outputs where
  cmdReady := s.fsm = .idle && !rst
  rspValid := s.rspV
  rspCode := s.lastCode
  result := s.result
  busy := s.fsm ≠ .idle
  txValid := s.fsm = .tx && !rst
  txId := s.frameId
  txRtr := s.frameRtr
  txDlc := s.frameDlc
  txData := s.txBuf.toPayload
  rxReady := s.fsm.isWait && !rst

/-- An operation is accepted at this edge (10_state.md R16). -/
def State.accepts (s : State) (i : Inputs) : Bool := i.cmdValid && (s.outputs i.rst).cmdReady

/-- The offered frame is transferred or rejected at this edge (10_state.md R18). -/
def State.handsOver (s : State) (i : Inputs) : Bool := i.txReady && (s.outputs i.rst).txValid

/-- A received frame is consumed at this edge (10_state.md R19). -/
def State.consumes (s : State) (i : Inputs) : Bool := i.rxValid && (s.outputs i.rst).rxReady

end Sys2Proof.Machine
end

