-- ==== Sys2Proof/Machine/Cycle.lean ====
section
/-! DEFINITION. One rising edge of `clk` (43_exchange.md R108), and how an operation comes to stand
on the command port. -/

namespace Sys2Proof.Machine

/-- An edge in IDLE (43_exchange.md R108): nothing without an offered operation; ILLEGAL for a word
that decodes to none (60_exceptions.md R113); else the operation's own effect. -/
def idleEdge (i : Inputs) (s : State) : Host.Outcome State Fault Refusal :=
  if i.cmdValid then
    match decode i.cmd i.data with
    | .op op => exec op s
    | .illegal _ => raise .illegal s
  else .next s

/-- The branch of one edge, chosen by `rst` and FSM (43_exchange.md R108). -/
def edge (i : Inputs) (s : State) : Host.Outcome State Fault Refusal :=
  if i.rst then .next s.resetRegisters
  else match s.fsm with
    | .idle => idleEdge i s
    | .tx => .next (txEdge i s)
    | .waitRsp => .next (waitRspEdge i s)
    | .waitHb => .next (waitHbEdge i s)

/-- Inputs in which the host offers the operation (`cmd`, `data`) and reset is not asserted. -/
def offerOn (i : Inputs) (cmd : CmdWord) (data : DataWord) : Inputs :=
  { i with rst := false, cmdValid := true, cmd := cmd, data := data }

/-- The host offers one operation in the present cycle, and the block is IDLE so that it is
accepted; a cycle that is not scheduled gets otherwise quiet inputs (log entry 2). -/
def State.offer (s : State) (cmd : CmdWord) (data : DataWord) : State :=
  { s with
    fsm := .idle
    inputs := offerOn (s.inputs.head?.getD {}) cmd data :: s.inputs.tail }

end Sys2Proof.Machine
end

