-- ==== Sys2Proof/Machine/Step.lean ====
section
/-! DEFINITION. The step of the machine: one clock cycle (43_exchange.md R108). -/

namespace Sys2Proof.Machine

/-- One rising edge with the inputs of the present cycle: `RSP_V <- 0` first, then the branch. -/
def step (s : State) : Host.Outcome State Fault Refusal := edge s.now s.beginCycle

/-- The state in which the very next step accepts the operation whose bits are `w`, numbered as
opcode_table.json numbers them (log entries 2 and 10). -/
def State.withFetchWord (s : State) (nbits w : Nat) : State :=
  s.offer (tableCmd nbits w) (tableData nbits w)

end Sys2Proof.Machine
end

