-- ==== Sys2Proof/Safety.lean ====
section
/-! DEFINITION. The terms in which statements about the block are made: which registers a step may
change, what a completion is, what a good state is, and how a run goes. -/

namespace Sys2Proof.Safety

open Sys2Proof.Machine

/-! ## Frames -/

/-- The fields of `State` by name: the registers of 10_state.md R40 and the model's own fields. -/
inductive Reg where
  | frameId | frameRtr | frameValid | frameDlc | txBuf
  | rxId | rxRtr | rxDlc | rxBuf
  | result | lastCode | rspV | timeoutMs | silent | fsm | tickCnt | waitId
  | cfg | inputs | cycle
  deriving DecidableEq, Repr

/-- A register holds in `t` what it held in `s`; a buffer is compared byte by byte, at every
address. -/
def Reg.same : Reg → State → State → Prop
  | .frameId, s, t => t.frameId = s.frameId
  | .frameRtr, s, t => t.frameRtr = s.frameRtr
  | .frameValid, s, t => t.frameValid = s.frameValid
  | .frameDlc, s, t => t.frameDlc = s.frameDlc
  | .txBuf, s, t => ∀ a, t.txBuf.readByte a = s.txBuf.readByte a
  | .rxId, s, t => t.rxId = s.rxId
  | .rxRtr, s, t => t.rxRtr = s.rxRtr
  | .rxDlc, s, t => t.rxDlc = s.rxDlc
  | .rxBuf, s, t => ∀ a, t.rxBuf.readByte a = s.rxBuf.readByte a
  | .result, s, t => t.result = s.result
  | .lastCode, s, t => t.lastCode = s.lastCode
  | .rspV, s, t => t.rspV = s.rspV
  | .timeoutMs, s, t => t.timeoutMs = s.timeoutMs
  | .silent, s, t => t.silent = s.silent
  | .fsm, s, t => t.fsm = s.fsm
  | .tickCnt, s, t => t.tickCnt = s.tickCnt
  | .waitId, s, t => t.waitId = s.waitId
  | .cfg, s, t => t.cfg = s.cfg
  | .inputs, s, t => t.inputs = s.inputs
  | .cycle, s, t => t.cycle = s.cycle

/-- Every register outside `changed` is the same in both states. -/
def onlyChanges (changed : List Reg) (s t : State) : Prop := ∀ r, r ∉ changed → r.same s t

/-- What every completion writes (00_scope.md R12). -/
def completionRegs : List Reg := [.lastCode, .rspV, .fsm]

/-- What every cycle may change beside its branch: RSP_V (43_exchange.md R108) and the model's
record of the environment. -/
def cycleRegs : List Reg := [.rspV, .inputs, .cycle]

/-- The operation has completed with a code (00_scope.md R12). -/
def completed (t : State) (c : Code) : Prop := t.lastCode = c.bits ∧ t.rspV = true ∧ t.fsm = .idle

/-! ## Bytes -/

/-- `m'` holds the low `n` bytes of `v` from `off` on, least significant byte first
(20_memory.md R43), and is `m` at every address outside them. -/
def storesBytes {w : Nat} (m m' : Memory) (off n : Nat) (v : BitVec w) : Prop :=
  (∀ k, k < n → m'.readByte (off + k) = v.extractLsb' (8 * k) 8) ∧
    ∀ a, a < off ∨ off + n ≤ a → m'.readByte a = m.readByte a

/-- The field of `n` bytes at `off` holds `v`, least significant byte first (20_memory.md R43). -/
def holdsField {w : Nat} (m : Memory) (off n : Nat) (v : BitVec w) : Prop :=
  ∀ k, k < n → m.readByte (off + k) = v.extractLsb' (8 * k) 8

/-- A frame was captured (43_exchange.md R100): its identifier, its RTR flag, its length capped
at 8, and its bytes with zeros beyond the length. -/
def captured (i : Inputs) (t : State) : Prop :=
  t.rxId = i.rxId ∧ t.rxRtr = i.rxRtr ∧ t.rxDlc.toNat = min i.rxDlc.toNat 8 ∧
    ∀ k, t.rxBuf.readByte k =
      if k < min i.rxDlc.toNat 8 then i.rxData.extractLsb' (8 * k) 8 else 0

/-- What a capture writes (43_exchange.md R100). -/
def captureRegs : List Reg := [.rxId, .rxRtr, .rxDlc, .rxBuf]

/-- The offset and the width of the field a PACK or an UNPACK names (20_memory.md R46). -/
def fieldOf : Instr → Option (Nat × Nat)
  | .packU8 off _ => some (off, 1)
  | .packI16 off _ => some (off, 2)
  | .packI32 off _ => some (off, 4)
  | .packU32 off _ => some (off, 4)
  | .packF32 off _ => some (off, 4)
  | .packFf16 off _ => some (off, 2)
  | .packFf8 off _ => some (off, 1)
  | .unpackU8 off _ => some (off, 1)
  | .unpackI16 off _ => some (off, 2)
  | .unpackI32 off _ => some (off, 4)
  | .unpackU32 off _ => some (off, 4)
  | .unpackF32 off _ => some (off, 4)
  | .unpackFf16 off _ => some (off, 2)
  | .nop => none
  | .idEnc _ _ _ => none
  | .idDec _ => none
  | .bufClr => none
  | .setDlc _ => none
  | .setTimeout _ => none
  | .setPolicy _ => none
  | .xchg => none
  | .hbWait _ => none

/-! ## Numbers -/

/-- The value of a finite binary32 pattern in units of 2^-149, with its sign. -/
def b32Units (x : DataWord) : Int := signed (B32.sign x) (B32.magnitude x)

/-- The pattern is finite: neither a NaN nor an infinity. -/
def b32Finite (x : DataWord) : Prop := B32.isNaN x = false ∧ B32.isInf x = false

/-- The magnitude of the pattern whose bits [30:0] are `y`, in units of 2^-149. -/
def b32MagnitudeOf (y : Nat) : Nat := B32.magnitude (BitVec.ofNat 32 y)

/-- How far the pattern whose bits [30:0] are `y` lies from `p / q` units, times `q`. -/
def b32Distance (y p q : Nat) : Nat := ((b32MagnitudeOf y * q : Int) - p).natAbs

/-- Bits [30:0] `r` are the binary32 magnitude nearest `p / q` units of 2^-149, ties to the even
pattern (00_scope.md R13; IEEE 754 roundTiesToEven, log entry 7). -/
def b32Nearest (r p q : Nat) : Prop :=
  r < B32.infMagnitude ∧
    ∀ y, y < B32.infMagnitude →
      b32Distance r p q ≤ b32Distance y p q ∧
        (b32Distance y p q = b32Distance r p q → y ≠ r → r % 2 = 0)

/-! ## The table -/

/-- One row of the operation map as opcode_table.json gives it: a word is an operation of the row
when `cmd & mask = pattern`. -/
structure TableRow where
  opcode : Opcode
  mask : CmdWord
  pattern : CmdWord
  deriving DecidableEq, Repr

/-- The rows of opcode_table.json, their masks and matches copied from it. -/
def opcodeTable : List TableRow :=
  [⟨.nop, 0xFFFF, 0x0000⟩, ⟨.idEnc, 0xFFFE, 0x0800⟩, ⟨.idDec, 0xFFFC, 0x1000⟩,
   ⟨.bufClr, 0xFFFF, 0x1800⟩, ⟨.setDlc, 0xFFF0, 0x2000⟩, ⟨.setTimeout, 0xFFFF, 0x2800⟩,
   ⟨.setPolicy, 0xFFFE, 0x3000⟩, ⟨.packU8, 0xF8FF, 0x4000⟩, ⟨.packI16, 0xF8FF, 0x4800⟩,
   ⟨.packI32, 0xF8FF, 0x5000⟩, ⟨.packU32, 0xF8FF, 0x5800⟩, ⟨.packF32, 0xF8FF, 0x6000⟩] ++
  [⟨.packFf16, 0xF8FF, 0x6800⟩, ⟨.packFf8, 0xF8FF, 0x7000⟩, ⟨.unpackU8, 0xF87F, 0x8000⟩,
   ⟨.unpackI16, 0xF87F, 0x8800⟩, ⟨.unpackI32, 0xF87F, 0x9000⟩, ⟨.unpackU32, 0xF87F, 0x9800⟩,
   ⟨.unpackF32, 0xF87F, 0xA000⟩, ⟨.unpackFf16, 0xF87F, 0xA800⟩, ⟨.xchg, 0xFFFF, 0xC000⟩,
   ⟨.hbWait, 0xFFFF, 0xC800⟩]

/-- A command word decodes to an operation, whatever its data word. -/
def legalWord (cmd : CmdWord) : Bool :=
  match decode cmd 0 with
  | .op _ => true
  | .illegal _ => false

/-! ## Writers -/

/-- The operations that may write a register (10_state.md R21 to R25, R30, R33, R34); none may
write the parameters. The registers of the reply and of the engine are written by waits and have
statements of their own. -/
def writersOf : Reg → List Opcode
  | .frameId => [.idEnc]
  | .frameRtr => [.idEnc]
  | .frameValid => [.idEnc]
  | .frameDlc => [.setDlc, .bufClr]
  | .txBuf => [.bufClr, .packU8, .packI16, .packI32, .packU32, .packF32, .packFf16, .packFf8]
  | .result =>
    [.idDec, .unpackU8, .unpackI16, .unpackI32, .unpackU32, .unpackF32, .unpackFf16]
  | .timeoutMs => [.setTimeout]
  | .silent => [.setPolicy]
  | _ => []

/-- The registers `writersOf` speaks about. -/
def hostRegs : List Reg :=
  [.frameId, .frameRtr, .frameValid, .frameDlc, .txBuf, .result, .timeoutMs, .silent, .cfg]

/-- The codes an operation can complete with in the cycle that accepts it (60_exceptions.md R111). -/
def codesOf : Opcode → List Code
  | .nop => [.ok]
  | .idEnc => [.ok, .errAxis, .errCmd]
  | .idDec => [.ok, .errId]
  | .bufClr => [.ok]
  | .setDlc => [.ok, .errDlc]
  | .setTimeout => [.ok, .errRange]
  | .setPolicy => [.ok]
  | .packU8 => [.ok]
  | .packI16 => [.ok, .errOffset]
  | .packI32 => [.ok, .errOffset]
  | .packU32 => [.ok, .errOffset]
  | .packF32 => [.ok, .errOffset]
  | .packFf16 => [.ok, .errOffset, .errRange]
  | .packFf8 => [.ok, .errRange]
  | .unpackU8 => [.ok]
  | .unpackI16 => [.ok, .errOffset]
  | .unpackI32 => [.ok, .errOffset]
  | .unpackU32 => [.ok, .errOffset]
  | .unpackF32 => [.ok, .errOffset]
  | .unpackFf16 => [.ok, .errOffset]
  | .xchg => [.errNoFrame]
  | .hbWait => [.errAxis]

/-- The failure of an operation at the edge that accepts it, by the cause its code stands for
(60_exceptions.md R111), the first check that fails being the one reported (R114). -/
def failsWith (i : Instr) (s : State) : Code → Prop
  | .errAxis => ∃ axis, 63 < axis ∧ (i = .hbWait axis ∨ ∃ q cid, i = .idEnc q axis cid)
  | .errCmd => ∃ q axis cid, i = .idEnc q axis cid ∧ axis ≤ 63 ∧ 31 < cid
  | .errId => ∃ v : DataWord, i = .idDec (.value v) ∧ 0x7FF < v.toNat
  | .errDlc => ∃ len, i = .setDlc len ∧ 8 < len
  | .errOffset => ∃ off n, fieldOf i = some (off, n) ∧ 8 < off + n
  | .errRange =>
    (∃ ms : DataWord, i = .setTimeout ms ∧ 65535 < ms.toNat) ∨
    ∃ off x, ffscale s.cfg.ffMul x = none ∧
      (i = .packFf16 off x ∧ off + 2 ≤ 8 ∨ i = .packFf8 off x ∧ off + 1 ≤ 8)
  | .errNoFrame => i = .xchg ∧ s.frameValid = false
  | .ok => False
  | .timeout => False
  | .defaulted => False
  | .errSend => False
  | .illegal => False

/-! ## The environment -/

/-- What a cycle reads of its inputs, by the state of the engine (10_state.md R16, R18, R19;
93_implementation_defined.md U16): the rest set to quiet values. -/
def readInputs (f : Fsm) (i : Inputs) : Inputs :=
  if i.rst then { rst := true }
  else match f with
    | .idle => if i.cmdValid then { cmdValid := true, cmd := i.cmd, data := i.data } else {}
    | .tx => if i.txReady then { txReady := true, txOk := i.txOk } else {}
    | .waitRsp =>
      if i.rxValid then
        { rxValid := true, rxId := i.rxId, rxRtr := i.rxRtr, rxDlc := i.rxDlc, rxData := i.rxData,
          msTick := i.msTick }
      else { msTick := i.msTick }
    | .waitHb =>
      if i.rxValid then
        { rxValid := true, rxId := i.rxId, rxRtr := i.rxRtr, rxDlc := i.rxDlc, rxData := i.rxData }
      else {}

/-- The inputs hold no reset and no frame with the identifier `id`. -/
def noReplyIn (id : CanId) (i : Inputs) : Prop := i.rst = false ∧ ¬(i.rxValid = true ∧ i.rxId = id)

/-- The ticks in a stretch of cycles (10_state.md R20). -/
def ticksIn : List Inputs → Nat
  | [] => 0
  | i :: rest => (if i.msTick then 1 else 0) + ticksIn rest

/-! ## Runs and good states -/

/-- `k` steps, stopping at the first fault or refusal. -/
def runFor : Nat → State → Host.Outcome State Fault Refusal
  | 0, s => .next s
  | k + 1, s =>
    match step s with
    | .next t => runFor k t
    | .fault r => .fault r
    | .refused r => .refused r

/-- A good state: the invariants of 10_state.md R38 that a single state can show, the canonical form
of both buffers, and what the engine relies on while it waits. -/
structure Inv (s : State) : Prop where
  /-- `FRAME_DLC <= 8` (R24, R38) -/
  frameDlc_le : s.frameDlc.toNat ≤ 8
  /-- `RX_DLC <= 8` (R28, R38) -/
  rxDlc_le : s.rxDlc.toNat ≤ 8
  /-- in WAIT_RSP, `TICK_CNT < TIMEOUT_MS` (R38) -/
  tick_lt : s.fsm = .waitRsp → s.tickCnt.toNat < s.timeoutMs.toNat
  /-- `RSP_V = 1` implies `FSM = IDLE` (R38) -/
  rsp_idle : s.rspV = true → s.fsm = .idle
  /-- codes 12..15 are never written (R31) -/
  code_le : s.lastCode.toNat ≤ 11
  /-- TX_BUF is in canonical form -/
  txBuf_wf : s.txBuf.wf = true
  /-- RX_BUF is in canonical form -/
  rxBuf_wf : s.rxBuf.wf = true
  /-- an exchange under way has a frame, and waits for its identifier (R23, R37) -/
  exchange_header : s.fsm = .tx ∨ s.fsm = .waitRsp → s.frameValid = true ∧ s.waitId = s.frameId
  /-- only a query waits for a reply (43_exchange.md R97) -/
  wait_is_query : s.fsm = .waitRsp → s.frameRtr = true
  /-- a heartbeat wait waits for command id 0x001 (43_exchange.md R104) -/
  heartbeat_id : s.fsm = .waitHb → s.waitId.extractLsb' 0 5 = 1
  /-- until a frame is captured, the reply buffer of a wait is zero (43_exchange.md R96, R104) -/
  reply_zero :
    s.fsm = .waitRsp ∨ s.fsm = .waitHb ∨ (s.fsm = .tx ∧ s.frameRtr = true) →
      (∀ a, s.rxBuf.readByte a = 0) ∧ s.rxDlc = 0

end Sys2Proof.Safety
end

