-- ==== Sys2Proof/Certificates/Slice0/Obligations.lean ====
section
/-! DEFINITION. The statements for the provers. Each docstring says which rule of spec/ its statement
formalises; the words `onlyChanges`, `completed`, `storesBytes`, `captured` and the like are in
Sys2Proof/Safety.lean. -/

open Sys2Proof Sys2Proof.Machine Sys2Proof.Safety

/-! ## Reset and the cycle -/

/-- 10_state.md R40: the value of every register after reset. -/
def Obligations.ResetLeavesEveryRegisterAtItsValue : Prop :=
  State.reset.frameId = 0 ∧ State.reset.frameRtr = false ∧ State.reset.frameValid = false ∧
  State.reset.frameDlc = 0 ∧ (∀ a, State.reset.txBuf.readByte a = 0x00) ∧
  State.reset.rxId = 0 ∧ State.reset.rxRtr = false ∧ State.reset.rxDlc = 0 ∧
  (∀ a, State.reset.rxBuf.readByte a = 0x00) ∧ State.reset.result = 0 ∧
  State.reset.lastCode = Code.ok.bits ∧ State.reset.rspV = false ∧ State.reset.timeoutMs = 5 ∧
  State.reset.silent = false ∧ State.reset.fsm = .idle ∧ State.reset.tickCnt = 0 ∧
  State.reset.waitId = 0

/-- 70_reset_and_hazards.md section 1 (R122, R123): at an edge with `rst = 1`, whatever the state and
the other inputs, every register takes its reset value, and no port shows a handshake. That the
parameters and the environment's record stay is the model's choice (log entry 11). -/
def Obligations.ResetEdgeRestoresEveryRegister : Prop :=
  ∀ s : State, s.now.rst = true →
    (∃ t, step s = .next t ∧ onlyChanges [.cfg, .inputs, .cycle] State.reset t ∧ t.cfg = s.cfg) ∧
    (s.outputs true).cmdReady = false ∧ (s.outputs true).txValid = false ∧
    (s.outputs true).rxReady = false

/-- 43_exchange.md R108 (IDLE, operation offered): the step is the operation's own effect on the
state in which RSP_V is 0, and no other register is changed first. That this cycle's inputs are taken
off the list and the counter goes on is the model's choice (log entry 1), no rule of the spec. -/
def Obligations.StepRunsTheAcceptedOperation : Prop :=
  ∀ (s : State) (i : Instr), s.fsm = .idle → s.now.rst = false → s.now.cmdValid = true →
    decode s.now.cmd s.now.data = .op i →
    step s = exec i s.beginCycle ∧ s.beginCycle.rspV = false ∧ s.beginCycle.inputs = s.inputs.tail ∧
      s.beginCycle.cycle = s.cycle + 1 ∧ onlyChanges cycleRegs s s.beginCycle

/-- 43_exchange.md R108 (IDLE, nothing offered): nothing happens but the end of the completion
pulse (10_state.md R32). -/
def Obligations.IdleCycleWithoutOfferChangesNothing : Prop :=
  ∀ s : State, s.fsm = .idle → s.now.rst = false → s.now.cmdValid = false →
    ∃ t, step s = .next t ∧ t.rspV = false ∧ onlyChanges cycleRegs s t

/-- 60_exceptions.md R113: a word that decodes to no operation is accepted, completes with ILLEGAL
in that cycle, and changes nothing else; its data word is ignored. -/
def Obligations.IllegalWordOnlyReportsIllegal : Prop :=
  ∀ s : State, s.fsm = .idle → s.now.rst = false → s.now.cmdValid = true →
    legalWord s.now.cmd = false →
    (∀ d, ∃ why, decode s.now.cmd d = .illegal why) ∧
    (s.outputs false).cmdReady = true ∧
    ∃ t, step s = .next t ∧ completed t .illegal ∧
      onlyChanges (.inputs :: .cycle :: completionRegs) s t

/-! ## Encoding -/

/-- 30_encoding.md section 3 (R65 to R67): decoding the words of any well-formed operation gives
that operation back, every operand at every value its field admits. -/
def Obligations.DecodeOfEncodeIsTheInstruction : Prop :=
  ∀ i : Instr, i.wellFormed = true → decode (encode i).1 (encode i).2 = .op i

/-- 30_encoding.md section 3 (R66 to R69): an operation the decoder reads is well-formed, its
encoding is the command word it was read from, and its operands do not depend on data bits the
encoding leaves out. -/
def Obligations.DecodedWordIsTheEncodingOfItsInstruction : Prop :=
  ∀ (cmd : CmdWord) (data : DataWord) (i : Instr), decode cmd data = .op i →
    i.wellFormed = true ∧ (encode i).1 = cmd ∧ decode cmd (encode i).2 = .op i

/-- 30_encoding.md section 3 (R67 to R69) and opcode_table.json: a word decodes to an operation
exactly where it matches a row of the table and is not ID_DEC with SRC = 3, and the operation has
the row's opcode. -/
def Obligations.DecoderAgreesWithTheOpcodeTable : Prop :=
  ∀ (cmd : CmdWord) (data : DataWord),
    ((∃ i, decode cmd data = .op i) ↔
      cmd ≠ 0x1003 ∧ ∃ row ∈ opcodeTable, cmd &&& row.mask = row.pattern) ∧
    ∀ i, decode cmd data = .op i →
      ∃ row ∈ opcodeTable, cmd &&& row.mask = row.pattern ∧ i.opcode = row.opcode

/-- 30_encoding.md R69: the words that are ILLEGAL, and how many words are not. -/
def Obligations.LegalWordsAreOneHundredEighty : Prop :=
  (∀ cmd : CmdWord, ∀ d : DataWord,
    (decode cmd d = .illegal .reservedOpcode ↔
      cmd.toNat / 2048 ∈ [0b00111, 0b01111, 0b10110, 0b10111, 0b11010, 0b11011, 0b11100, 0b11101,
        0b11110, 0b11111]) ∧
    (decode cmd d = .illegal .reservedBit ↔
      ∃ row ∈ opcodeTable, cmd.toNat / 2048 = row.pattern.toNat / 2048 ∧
        cmd &&& row.mask ≠ row.pattern) ∧
    (decode cmd d = .illegal .idDecSource3 ↔ cmd = 0x1003)) ∧
  ((List.range 65536).filter fun n => legalWord (BitVec.ofNat 16 n)).length = 180 ∧
  ((List.range 65536).filter fun n => !legalWord (BitVec.ofNat 16 n)).length = 65356

/-- 30_encoding.md R67 and R71, words written out from the tables: one of each format, and one of
each kind of ILLEGAL word. -/
def Obligations.WordsWrittenFromTheSpecDecode : Prop :=
  decode 0b0000000000000000 0xDEADBEEF = .op .nop ∧
  decode 0b0000100000000001 0x00020009 = .op (.idEnc true 2 9) ∧
  decode 0b0001000000000000 0x00000049 = .op (.idDec (.value 0x49)) ∧
  decode 0b0010000000001000 0 = .op (.setDlc 8) ∧
  decode 0b0011000000000001 0 = .op (.setPolicy true) ∧
  decode 0b0110010000000000 0x41480000 = .op (.packF32 4 0x41480000) ∧
  decode 0b1010111010000000 0 = .op (.unpackFf16 6 .tx) ∧
  decode 0b1100100000000000 0x003F1234 = .op (.hbWait 63) ∧
  decode 0b0011100000000000 0 = .illegal .reservedOpcode ∧
  decode 0b0100000010000000 0 = .illegal .reservedBit ∧
  decode 0b0001000000000011 0 = .illegal .idDecSource3

/-! ## Frame and ID operations -/

/-- 40_frame.md R74: NOP completes OK and changes nothing else; a word of opcode 0 with a reserved
bit set is not a NOP but ILLEGAL. -/
def Obligations.NopOnlyCompletes : Prop :=
  (∀ d, decode 0x0000 d = .op .nop) ∧
  (∀ (cmd : CmdWord) d, cmd.toNat / 2048 = 0 → cmd ≠ 0 → decode cmd d = .illegal .reservedBit) ∧
  ∀ s : State, ∃ t, exec .nop s = .next t ∧ completed t .ok ∧ onlyChanges completionRegs s t

/-- 40_frame.md R75 and 30_encoding.md R61: ID_ENC composes the identifier of an axis up to 63 and
a command id up to 31; anything above is rejected and no register but the completion's changes. -/
def Obligations.IdEncComposesOrRejects : Prop :=
  (∀ (q : Bool) (d : DataWord),
    decode (if q then 0x0801 else 0x0800) d =
      .op (.idEnc q (d.toNat / 65536) (d.toNat % 65536))) ∧
  ∀ (s : State) (q : Bool) (axis cid : Nat),
    (63 < axis → ∃ t, exec (.idEnc q axis cid) s = .next t ∧ completed t .errAxis ∧
      onlyChanges completionRegs s t) ∧
    (axis ≤ 63 → 31 < cid → ∃ t, exec (.idEnc q axis cid) s = .next t ∧ completed t .errCmd ∧
      onlyChanges completionRegs s t) ∧
    (axis ≤ 63 → cid ≤ 31 → ∃ t, exec (.idEnc q axis cid) s = .next t ∧ completed t .ok ∧
      t.frameId = BitVec.ofNat 11 ((axis <<< 5) ||| cid) ∧ t.frameRtr = q ∧ t.frameValid = true ∧
      onlyChanges (.frameId :: .frameRtr :: .frameValid :: completionRegs) s t)

/-- 30_encoding.md R60: the identifier ID_ENC composes is `32 * axis_id + command_id`, and every
11-bit value is the identifier of exactly one pair in range. -/
def Obligations.EveryIdHasExactlyOneAxisAndCommand : Prop :=
  (∀ (s : State) (q : Bool) (axis cid : Nat), axis ≤ 63 → cid ≤ 31 →
    ∃ t, exec (.idEnc q axis cid) s = .next t ∧ t.frameId.toNat = 32 * axis + cid) ∧
  ∀ (s : State) (q : Bool) (id : CanId), ∃ axis cid,
    (axis ≤ 63 ∧ cid ≤ 31 ∧ ∃ t, exec (.idEnc q axis cid) s = .next t ∧ t.frameId = id) ∧
    id.extractLsb' 5 6 = BitVec.ofNat 6 axis ∧ id.extractLsb' 0 5 = BitVec.ofNat 5 cid ∧
    ∀ axis' cid', axis' ≤ 63 → cid' ≤ 31 →
      (∃ t, exec (.idEnc q axis' cid') s = .next t ∧ t.frameId = id) → axis' = axis ∧ cid' = cid

/-- 40_frame.md R76: ID_DEC decomposes an operand up to 0x7FF, RX_ID or FRAME_ID into RESULT, axis
in the high half and command id in the low half; a larger operand is rejected; SRC = 3 is ILLEGAL;
ID_ENC followed by ID_DEC FRAME leaves the pair that was composed. -/
def Obligations.IdDecDecomposesOrRejects : Prop :=
  (∀ d, decode 0x1000 d = .op (.idDec (.value d)) ∧ decode 0x1001 d = .op (.idDec .rx) ∧
    decode 0x1002 d = .op (.idDec .frame) ∧ decode 0x1003 d = .illegal .idDecSource3) ∧
  (∀ (s : State) (v : DataWord), 0x7FF < v.toNat →
    ∃ t, exec (.idDec (.value v)) s = .next t ∧ completed t .errId ∧
      onlyChanges completionRegs s t) ∧
  (∀ (s : State) (src : IdSrc) (id : Nat),
    (src = .rx ∧ id = s.rxId.toNat) ∨ (src = .frame ∧ id = s.frameId.toNat) ∨
      (∃ v : DataWord, src = .value v ∧ id = v.toNat ∧ v.toNat ≤ 0x7FF) →
    ∃ t, exec (.idDec src) s = .next t ∧ completed t .ok ∧
      t.result.toNat = (id / 32) * 65536 + id % 32 ∧ onlyChanges (.result :: completionRegs) s t) ∧
  ∀ (s : State) (q : Bool) (axis cid : Nat), axis ≤ 63 → cid ≤ 31 →
    ∃ t u, exec (.idEnc q axis cid) s = .next t ∧ exec (.idDec .frame) t = .next u ∧
      u.result = BitVec.ofNat 32 ((axis <<< 16) ||| cid)

/-- 40_frame.md R77: BUF_CLR zeroes TX_BUF and FRAME_DLC and keeps the header. -/
def Obligations.BufClrEmptiesThePayload : Prop :=
  (∀ d, decode 0x1800 d = .op .bufClr) ∧
  ∀ s : State, ∃ t, exec .bufClr s = .next t ∧ completed t .ok ∧
    (∀ a, t.txBuf.readByte a = 0x00) ∧ t.frameDlc = 0 ∧
    onlyChanges (.txBuf :: .frameDlc :: completionRegs) s t

/-- 40_frame.md R78: SET_DLC sets a length of 0 to 8 and rejects 9 to 15; TX_BUF is not touched. -/
def Obligations.SetDlcSetsTheLengthOrRejects : Prop :=
  (∀ len d, len < 16 → decode (BitVec.ofNat 16 (0x2000 ||| len)) d = .op (.setDlc len)) ∧
  ∀ (s : State) (len : Nat),
    (8 < len → ∃ t, exec (.setDlc len) s = .next t ∧ completed t .errDlc ∧
      onlyChanges completionRegs s t) ∧
    (len ≤ 8 → ∃ t, exec (.setDlc len) s = .next t ∧ completed t .ok ∧ t.frameDlc.toNat = len ∧
      onlyChanges (.frameDlc :: completionRegs) s t)

/-! ## Pack operations -/

/-- 41_pack.md R79: PACK_U8 stores the low byte of the data word at any offset, whatever the rest of
the word. -/
def Obligations.PackU8StoresTheLowByte : Prop :=
  (∀ off d, off < 8 → decode (BitVec.ofNat 16 (0x4000 ||| off <<< 8)) d = .op (.packU8 off d)) ∧
  ∀ (s : State) (off : Nat) (v : DataWord), off < 8 →
    ∃ t, exec (.packU8 off v) s = .next t ∧ completed t .ok ∧
      storesBytes s.txBuf t.txBuf off 1 v ∧ onlyChanges (.txBuf :: completionRegs) s t

/-- 41_pack.md R80: PACK_I16 stores the low 16 bits of the data word little-endian; offset 7 is
rejected. -/
def Obligations.PackI16StoresTheLowHalf : Prop :=
  (∀ off d, off < 8 → decode (BitVec.ofNat 16 (0x4800 ||| off <<< 8)) d = .op (.packI16 off d)) ∧
  ∀ (s : State) (off : Nat) (v : DataWord),
    (8 < off + 2 → ∃ t, exec (.packI16 off v) s = .next t ∧ completed t .errOffset ∧
      onlyChanges completionRegs s t) ∧
    (off + 2 ≤ 8 → ∃ t, exec (.packI16 off v) s = .next t ∧ completed t .ok ∧
      storesBytes s.txBuf t.txBuf off 2 v ∧ onlyChanges (.txBuf :: completionRegs) s t)

/-- 41_pack.md R81, R82, R83: PACK_I32, PACK_U32 and PACK_F32 store the 32-bit pattern bit for bit,
little-endian, at any offset up to 4; offsets 5 to 7 are rejected. -/
def Obligations.PackWordStoresAllFourBytes : Prop :=
  (∀ off d, off < 8 →
    decode (BitVec.ofNat 16 (0x5000 ||| off <<< 8)) d = .op (.packI32 off d) ∧
    decode (BitVec.ofNat 16 (0x5800 ||| off <<< 8)) d = .op (.packU32 off d) ∧
    decode (BitVec.ofNat 16 (0x6000 ||| off <<< 8)) d = .op (.packF32 off d)) ∧
  ∀ (s : State) (off : Nat) (v : DataWord),
    ∀ i ∈ [Instr.packI32 off v, Instr.packU32 off v, Instr.packF32 off v],
      (5 ≤ off → ∃ t, exec i s = .next t ∧ completed t .errOffset ∧
        onlyChanges completionRegs s t) ∧
      (off ≤ 4 → ∃ t, exec i s = .next t ∧ completed t .ok ∧
        storesBytes s.txBuf t.txBuf off 4 v ∧ onlyChanges (.txBuf :: completionRegs) s t)

/-- 41_pack.md section 2 (R84): `ffscale` fails on a NaN and an infinity; with EXACT it is the
product by 1000 truncated toward zero where that fits 16 bits and fails elsewhere; with B32_RNE it is
the same of the rounded product, and fails where that is infinite. The rounded product is that of
00_scope.md R13: it has the sign of x, it is the binary32 value nearest 1000 times x, ties to even,
and it is infinite exactly from half a unit past the largest finite value on. PRESUMED: the layout of
binary32 and roundTiesToEven are IEEE 754's, which the spec takes from general knowledge (log
entry 7). -/
def Obligations.FfscaleTruncatesTheProduct : Prop :=
  ∀ x : DataWord,
    (¬ b32Finite x → ∀ mode, ffscale mode x = none) ∧
    (b32Finite x → ∀ n, n = (b32Units x * 1000).tdiv (2 ^ 149) →
      ffscale .exact x =
        if -32768 ≤ n ∧ n ≤ 32767 then some (BitVec.ofInt 16 n) else none) ∧
    (b32Finite x → ∀ p, p = B32.mulRne x 0x447A0000 →
      B32.sign p = B32.sign x ∧
      (B32.magnitude x * 1000 < (2 ^ 25 - 1) * 2 ^ 252 →
        b32Finite p ∧ b32Nearest (p.toNat % 2 ^ 31) (B32.magnitude x * 1000) 1) ∧
      ((2 ^ 25 - 1) * 2 ^ 252 ≤ B32.magnitude x * 1000 → B32.isInf p = true) ∧
      (B32.isInf p = true → ffscale .b32Rne x = none) ∧
      (B32.isInf p = false → ∀ n, n = (b32Units p).tdiv (2 ^ 149) →
        ffscale .b32Rne x =
          if -32768 ≤ n ∧ n ≤ 32767 then some (BitVec.ofInt 16 n) else none))

/-- 41_pack.md section 2 (R84, corner cases): in both modes every value of magnitude below 0.001,
either zero and every subnormal included, scales to 0. PRESUMED: what value a pattern has, and how the
product of B32_RNE is rounded, is IEEE 754's, which the spec takes from general knowledge (log
entry 7). -/
def Obligations.FfscaleOfTinyValuesIsZero : Prop :=
  ∀ (mode : FfMul) (x : DataWord), b32Finite x → B32.magnitude x * 1000 < 2 ^ 149 →
    ffscale mode x = some 0

/-- 41_pack.md section 2 (R84, corner cases): the two modes differ only where the exact product lies
just below an integer in magnitude and rounds to that integer. PRESUMED: what value a pattern has, and
how the product of B32_RNE is rounded, is IEEE 754's, which the spec takes from general knowledge (log
entry 7). -/
def Obligations.FfModesDifferOnlyAcrossAnInteger : Prop :=
  ∀ x : DataWord, b32Finite x → ffscale .b32Rne x ≠ ffscale .exact x →
    ∃ k : Nat, B32.magnitude x * 1000 < k * 2 ^ 149 ∧ (k - 1) * 2 ^ 149 ≤ B32.magnitude x * 1000 ∧
      B32.magnitude (B32.mulRne x B32.thousand) = k * 2 ^ 149

/-- 00_scope.md section 4 (R13): the rounding of products and quotients is roundTiesToEven: the
result is the nearest finite pattern, ties to even, and it is infinite exactly from half a unit past
the largest finite value on. PRESUMED: IEEE 754, which the spec takes from general knowledge
(log entry 7). -/
def Obligations.RoundingIsNearestTiesToEven : Prop :=
  ∀ p q : Nat, 0 < q →
    (q * ((2 ^ 25 - 1) * 2 ^ 252) ≤ p → B32.round p q = B32.infMagnitude) ∧
    (p < q * ((2 ^ 25 - 1) * 2 ^ 252) → b32Nearest (B32.round p q) p q)

/-- 41_pack.md R85: PACK_FF16 stores both bytes of the scaled value; the offset is checked before the
range, and neither failure writes a byte. -/
def Obligations.PackFf16StoresTheScaledValue : Prop :=
  (∀ off d, off < 8 → decode (BitVec.ofNat 16 (0x6800 ||| off <<< 8)) d = .op (.packFf16 off d)) ∧
  ∀ (s : State) (off : Nat) (x : DataWord),
    (8 < off + 2 → ∃ t, exec (.packFf16 off x) s = .next t ∧ completed t .errOffset ∧
      onlyChanges completionRegs s t) ∧
    (off + 2 ≤ 8 → ffscale s.cfg.ffMul x = none →
      ∃ t, exec (.packFf16 off x) s = .next t ∧ completed t .errRange ∧
        onlyChanges completionRegs s t) ∧
    (∀ n, off + 2 ≤ 8 → ffscale s.cfg.ffMul x = some n →
      ∃ t, exec (.packFf16 off x) s = .next t ∧ completed t .ok ∧
        storesBytes s.txBuf t.txBuf off 2 n ∧ onlyChanges (.txBuf :: completionRegs) s t) ∧
    ffscale s.cfg.ffMul 0x40200000 = some 2500 ∧ ffscale s.cfg.ffMul 0xC0200000 = some 0xF63C

/-- 41_pack.md R86: PACK_FF8 stores the low byte only, under the range check of the 16-bit value; the
next byte keeps what it held. -/
def Obligations.PackFf8StoresTheLowByteOnly : Prop :=
  (∀ off d, off < 8 → decode (BitVec.ofNat 16 (0x7000 ||| off <<< 8)) d = .op (.packFf8 off d)) ∧
  ∀ (s : State) (off : Nat) (x : DataWord), off < 8 →
    (ffscale s.cfg.ffMul x = none →
      ∃ t, exec (.packFf8 off x) s = .next t ∧ completed t .errRange ∧
        onlyChanges completionRegs s t) ∧
    (∀ n, ffscale s.cfg.ffMul x = some n →
      ∃ t, exec (.packFf8 off x) s = .next t ∧ completed t .ok ∧
        storesBytes s.txBuf t.txBuf off 1 n ∧
        t.txBuf.readByte (off + 1) = s.txBuf.readByte (off + 1) ∧
        onlyChanges (.txBuf :: completionRegs) s t) ∧
    ffscale s.cfg.ffMul 0x3F800000 = some 0x03E8 ∧ ffscale s.cfg.ffMul 0x4203126F = none ∧
    ffscale s.cfg.ffMul 0xC0200000 = some 0xF63C

/-! ## Unpack operations -/

/-- 42_unpack.md R88: UNPACK_U8 reads one byte, zero-extended. -/
def Obligations.UnpackU8ReadsOneByte : Prop :=
  (∀ off d, off < 8 →
    decode (BitVec.ofNat 16 (0x8000 ||| off <<< 8)) d = .op (.unpackU8 off .rx) ∧
    decode (BitVec.ofNat 16 (0x8000 ||| off <<< 8 ||| 1 <<< 7)) d = .op (.unpackU8 off .tx)) ∧
  ∀ (s : State) (off : Nat) (b : Buf), off < 8 →
    ∃ t, exec (.unpackU8 off b) s = .next t ∧ completed t .ok ∧
      t.result.toNat = ((s.buffer b).readByte off).toNat ∧
      onlyChanges (.result :: completionRegs) s t

/-- 42_unpack.md R89: UNPACK_I16 reads two bytes, sign-extended; offset 7 is rejected and RESULT
stays. -/
def Obligations.UnpackI16ReadsASignedHalf : Prop :=
  (∀ off d, off < 8 →
    decode (BitVec.ofNat 16 (0x8800 ||| off <<< 8)) d = .op (.unpackI16 off .rx) ∧
    decode (BitVec.ofNat 16 (0x8800 ||| off <<< 8 ||| 1 <<< 7)) d = .op (.unpackI16 off .tx)) ∧
  ∀ (s : State) (off : Nat) (b : Buf),
    (8 < off + 2 → ∃ t, exec (.unpackI16 off b) s = .next t ∧ completed t .errOffset ∧
      onlyChanges completionRegs s t) ∧
    (∀ v : BitVec 16, off + 2 ≤ 8 → holdsField (s.buffer b) off 2 v →
      ∃ t, exec (.unpackI16 off b) s = .next t ∧ completed t .ok ∧ t.result.toInt = v.toInt ∧
        onlyChanges (.result :: completionRegs) s t)

/-- 42_unpack.md R90, R91, R92: UNPACK_I32, UNPACK_U32 and UNPACK_F32 read four bytes, the pattern
as it is; offsets 5 to 7 are rejected; what PACK_F32 stored, UNPACK_F32 TX returns bit for bit. -/
def Obligations.UnpackWordReadsAllFourBytes : Prop :=
  (∀ off d, off < 8 →
    decode (BitVec.ofNat 16 (0x9000 ||| off <<< 8)) d = .op (.unpackI32 off .rx) ∧
    decode (BitVec.ofNat 16 (0x9000 ||| off <<< 8 ||| 1 <<< 7)) d = .op (.unpackI32 off .tx) ∧
    decode (BitVec.ofNat 16 (0x9800 ||| off <<< 8)) d = .op (.unpackU32 off .rx) ∧
    decode (BitVec.ofNat 16 (0x9800 ||| off <<< 8 ||| 1 <<< 7)) d = .op (.unpackU32 off .tx) ∧
    decode (BitVec.ofNat 16 (0xA000 ||| off <<< 8)) d = .op (.unpackF32 off .rx) ∧
    decode (BitVec.ofNat 16 (0xA000 ||| off <<< 8 ||| 1 <<< 7)) d = .op (.unpackF32 off .tx)) ∧
  (∀ (s : State) (off : Nat) (b : Buf),
    ∀ i ∈ [Instr.unpackI32 off b, Instr.unpackU32 off b, Instr.unpackF32 off b],
      (5 ≤ off → ∃ t, exec i s = .next t ∧ completed t .errOffset ∧
        onlyChanges completionRegs s t) ∧
      (∀ v : DataWord, off ≤ 4 → holdsField (s.buffer b) off 4 v →
        ∃ t, exec i s = .next t ∧ completed t .ok ∧ t.result = v ∧
          onlyChanges (.result :: completionRegs) s t)) ∧
  ∀ (s : State) (off : Nat) (x : DataWord), off ≤ 4 →
    ∃ t u, exec (.packF32 off x) s = .next t ∧ exec (.unpackF32 off .tx) t = .next u ∧ u.result = x

/-- 42_unpack.md, UNPACK_FF16 (R93): it leaves the binary32 value nearest the signed field divided by
1000, +0.0 for 0, never a NaN or an infinity; offset 7 is rejected and RESULT stays. What nearest
means is IEEE 754's, which the spec takes from general knowledge (PRESUMED, log entry 7). -/
def Obligations.UnpackFf16DividesByOneThousand : Prop :=
  (∀ off d, off < 8 →
    decode (BitVec.ofNat 16 (0xA800 ||| off <<< 8)) d = .op (.unpackFf16 off .rx) ∧
    decode (BitVec.ofNat 16 (0xA800 ||| off <<< 8 ||| 1 <<< 7)) d = .op (.unpackFf16 off .tx)) ∧
  ∀ (s : State) (off : Nat) (b : Buf),
    (8 < off + 2 → ∃ t, exec (.unpackFf16 off b) s = .next t ∧ completed t .errOffset ∧
      onlyChanges completionRegs s t) ∧
    (∀ v : BitVec 16, off + 2 ≤ 8 → holdsField (s.buffer b) off 2 v →
      ∃ t, exec (.unpackFf16 off b) s = .next t ∧ completed t .ok ∧
        onlyChanges (.result :: completionRegs) s t ∧ b32Finite t.result ∧
        B32.sign t.result = decide (v.toInt < 0) ∧
        b32Nearest (t.result.toNat % 2 ^ 31) (v.toInt.natAbs * 2 ^ 149) 1000 ∧
        (v = 0 → t.result = 0) ∧ (v = 1 → t.result = 0x3A83126F) ∧
        (v = 32767 → t.result = 0x42031168) ∧ (v = 0x8000 → t.result = 0xC203126F) ∧
        (v = 2500 → t.result = 0x40200000))

/-- 20_memory.md R47: a PACK or an UNPACK whose field ends past the buffer completes with
ERR_OFFSET, writes no byte and leaves RESULT; one whose field fits never reports ERR_OFFSET. -/
def Obligations.FieldPastTheBufferIsRefused : Prop :=
  ∀ (s : State) (i : Instr) (off n : Nat), fieldOf i = some (off, n) →
    (8 < off + n → ∃ t, exec i s = .next t ∧ completed t .errOffset ∧
      onlyChanges completionRegs s t) ∧
    (off + n ≤ 8 → ∀ t, exec i s = .next t → t.lastCode ≠ Code.errOffset.bits)

/-- 20_memory.md section 2 (R43, R44): after a 4-byte write every read inside the buffer, of any width
at any offset, inside the field, overlapping an end of it or outside it, is the little-endian value of
the bytes it covers: the written ones inside the field, the old ones outside. R44's own cases, one
byte and the low half, and the other halves of the field are stated beside it. -/
def Obligations.NarrowReadsSeeTheBytesOfAWord : Prop :=
  ∀ (m : Memory) (off : Nat) (v : DataWord), off + 4 ≤ 8 →
    ∃ m', m.store off 4 v.toNat = some m' ∧
      (∀ k, k < 4 → m'.load (off + k) 1 = some (v.extractLsb' (8 * k) 8).toNat) ∧
      m'.load off 2 = some (v.toNat % 65536) ∧ m'.load off 4 = some v.toNat ∧
      (∀ k, k < 3 → m'.load (off + k) 2 = some (v.toNat / 256 ^ k % 65536)) ∧
      (∀ a n, a + n ≤ 8 → ∃ u, m'.load a n = some u ∧ u < 256 ^ n ∧
        ∀ k, k < n → BitVec.ofNat 8 (u / 256 ^ k) =
          if off ≤ a + k ∧ a + k < off + 4 then v.extractLsb' (8 * (a + k - off)) 8
          else m.readByte (a + k)) ∧
      ∀ a, a < off ∨ off + 4 ≤ a → m'.readByte a = m.readByte a

/-- 20_memory.md section 3 (R50): a PACK, an UNPACK and an ID operation are idempotent: issuing one
twice leaves the state that issuing it once leaves. -/
def Obligations.PackUnpackAndIdOperationsAreIdempotent : Prop :=
  ∀ (i : Instr) (s t : State), (fieldOf i).isSome ∨ i.opcode = .idEnc ∨ i.opcode = .idDec →
    exec i s = .next t → ∃ u, exec i t = .next u ∧ onlyChanges [] t u

/-! ## Configuration -/

/-- 43_exchange.md R94: SET_TIMEOUT writes a value up to 65535, 0 included, and rejects a larger
one. -/
def Obligations.SetTimeoutSetsTheTimeoutOrRejects : Prop :=
  (∀ d, decode 0x2800 d = .op (.setTimeout d)) ∧
  ∀ (s : State) (ms : DataWord),
    (65535 < ms.toNat → ∃ t, exec (.setTimeout ms) s = .next t ∧ completed t .errRange ∧
      onlyChanges completionRegs s t) ∧
    (ms.toNat ≤ 65535 → ∃ t, exec (.setTimeout ms) s = .next t ∧ completed t .ok ∧
      t.timeoutMs.toNat = ms.toNat ∧ onlyChanges (.timeoutMs :: completionRegs) s t)

/-- 43_exchange.md R95: SET_POLICY writes SILENT and nothing else. -/
def Obligations.SetPolicySetsSilent : Prop :=
  (∀ (y : Bool) d, decode (if y then 0x3001 else 0x3000) d = .op (.setPolicy y)) ∧
  ∀ (s : State) (y : Bool), ∃ t, exec (.setPolicy y) s = .next t ∧ completed t .ok ∧ t.silent = y ∧
    onlyChanges (.silent :: completionRegs) s t

/-! ## The exchange engine -/

/-- 43_exchange.md, XCHG (R96, at the accepting edge): with a frame, the engine enters TX and waits
for FRAME_ID, a query zeroing the reply buffer first and a command leaving it; without a frame, the
operation is rejected and nothing is sent. -/
def Obligations.XchgStartsSendingTheFrame : Prop :=
  (∀ d, decode 0xC000 d = .op .xchg) ∧
  ∀ s : State,
    (s.frameValid = false → ∃ t, exec .xchg s = .next t ∧ completed t .errNoFrame ∧
      onlyChanges completionRegs s t) ∧
    (s.frameValid = true → s.frameRtr = false → ∃ t, exec .xchg s = .next t ∧ t.fsm = .tx ∧
      t.waitId = s.frameId ∧ onlyChanges [.waitId, .fsm] s t) ∧
    (s.frameValid = true → s.frameRtr = true → ∃ t, exec .xchg s = .next t ∧ t.fsm = .tx ∧
      t.waitId = s.frameId ∧ (∀ a, t.rxBuf.readByte a = 0x00) ∧ t.rxDlc = 0 ∧
      onlyChanges [.rxBuf, .rxDlc, .waitId, .fsm] s t)

/-- 43_exchange.md, HB_WAIT (R104, at the accepting edge): for an axis up to 63 the reply buffer is
zeroed and the engine waits for that axis's heartbeat; a larger axis is rejected; data[15:0] is
ignored. -/
def Obligations.HbWaitStartsWaitingForTheAxis : Prop :=
  (∀ d : DataWord, decode 0xC800 d = .op (.hbWait (d.toNat / 65536))) ∧
  ∀ (s : State) (axis : Nat),
    (63 < axis → ∃ t, exec (.hbWait axis) s = .next t ∧ completed t .errAxis ∧
      onlyChanges completionRegs s t) ∧
    (axis ≤ 63 → ∃ t, exec (.hbWait axis) s = .next t ∧ t.fsm = .waitHb ∧
      t.waitId = BitVec.ofNat 11 ((axis <<< 5) ||| 0x001) ∧
      (∀ a, t.rxBuf.readByte a = 0x00) ∧ t.rxDlc = 0 ∧
      onlyChanges [.rxBuf, .rxDlc, .waitId, .fsm] s t)

/-- 43_exchange.md R97 and R98: an edge in TX, with the frame on the transmit port, header and payload,
and each answer of the transport. -/
def Obligations.TxEdgeFollowsTheTransport : Prop :=
  ∀ s : State, s.fsm = .tx → s.now.rst = false →
    (s.outputs false).txValid = true ∧ (s.outputs false).txId = s.frameId ∧
    (s.outputs false).txRtr = s.frameRtr ∧ (s.outputs false).txDlc = s.frameDlc ∧
    (∀ k, k < 8 → (s.outputs false).txData.extractLsb' (8 * k) 8 = s.txBuf.readByte k) ∧
    (s.outputs false).rxReady = false ∧
    ∃ t, step s = .next t ∧
      (s.now.txReady = false → t.fsm = .tx ∧ t.rspV = false ∧ onlyChanges cycleRegs s t) ∧
      (s.now.txReady = true → s.now.txOk = false → completed t .errSend ∧
        onlyChanges (.inputs :: .cycle :: completionRegs) s t) ∧
      (s.now.txReady = true → s.now.txOk = true → s.frameRtr = false → completed t .ok ∧
        onlyChanges (.inputs :: .cycle :: completionRegs) s t) ∧
      (s.now.txReady = true → s.now.txOk = true → s.frameRtr = true → s.timeoutMs = 0 →
        completed t (if s.silent then .defaulted else .timeout) ∧
        onlyChanges (.inputs :: .cycle :: completionRegs) s t) ∧
      (s.now.txReady = true → s.now.txOk = true → s.frameRtr = true → s.timeoutMs ≠ 0 →
        t.fsm = .waitRsp ∧ t.tickCnt = 0 ∧ t.rspV = false ∧
        onlyChanges (.fsm :: .tickCnt :: cycleRegs) s t)

/-- 43_exchange.md R99, R100 and R102: an edge in WAIT_RSP. A frame with the awaited identifier is
captured and completes the exchange, on the expiring tick too; without one, a tick counts or, as the
TIMEOUT_MS-th, completes the exchange with the timeout code. -/
def Obligations.WaitRspEdgeMatchesOrCounts : Prop :=
  ∀ s : State, s.fsm = .waitRsp → s.now.rst = false →
    (s.outputs false).rxReady = true ∧
    ∃ t, step s = .next t ∧
      (s.now.rxValid = true ∧ s.now.rxId = s.waitId → completed t .ok ∧ captured s.now t ∧
        onlyChanges (captureRegs ++ .inputs :: .cycle :: completionRegs) s t) ∧
      (¬(s.now.rxValid = true ∧ s.now.rxId = s.waitId) → s.now.msTick = false →
        t.fsm = .waitRsp ∧ t.rspV = false ∧ onlyChanges cycleRegs s t) ∧
      (¬(s.now.rxValid = true ∧ s.now.rxId = s.waitId) → s.now.msTick = true →
        s.tickCnt.toNat + 1 < s.timeoutMs.toNat →
        t.fsm = .waitRsp ∧ t.rspV = false ∧ t.tickCnt.toNat = s.tickCnt.toNat + 1 ∧
        onlyChanges (.tickCnt :: cycleRegs) s t) ∧
      (¬(s.now.rxValid = true ∧ s.now.rxId = s.waitId) → s.now.msTick = true →
        s.timeoutMs.toNat ≤ s.tickCnt.toNat + 1 →
        completed t (if s.silent then .defaulted else .timeout) ∧
        onlyChanges (.inputs :: .cycle :: completionRegs) s t)

/-- 43_exchange.md R99, R100 and R105: an edge in WAIT_HB. Only a frame with the awaited identifier
ends the wait; ticks, the timeout and every other frame do nothing. -/
def Obligations.WaitHbEdgeOnlyMatches : Prop :=
  ∀ s : State, s.fsm = .waitHb → s.now.rst = false →
    (s.outputs false).rxReady = true ∧
    ∃ t, step s = .next t ∧
      (s.now.rxValid = true ∧ s.now.rxId = s.waitId → completed t .ok ∧ captured s.now t ∧
        onlyChanges (captureRegs ++ .inputs :: .cycle :: completionRegs) s t) ∧
      (¬(s.now.rxValid = true ∧ s.now.rxId = s.waitId) →
        t.fsm = .waitHb ∧ t.rspV = false ∧ onlyChanges cycleRegs s t)

/-- 43_exchange.md, the course of XCHG (R97, R110): a command (no query) is sent and completes OK at
the transport's first answer where that is one with `tx_ok` = 1, however long it takes, and waits for
no reply. That the coming inputs stand in a list, of which the course leaves `rest`, is the model's
choice (log entry 1). -/
def Obligations.CommandExchangeCompletesWhenSent : Prop :=
  ∀ (s : State) (offer hand : Inputs) (waits rest : List Inputs),
    s.fsm = .idle → s.frameValid = true → s.frameRtr = false →
    s.inputs = offer :: (waits ++ hand :: rest) →
    offer.rst = false → offer.cmdValid = true → offer.cmd = 0xC000 →
    (∀ i ∈ waits, i.rst = false ∧ i.txReady = false) →
    hand.rst = false → hand.txReady = true → hand.txOk = true →
    ∃ t, runFor (waits.length + 2) s = .next t ∧ completed t .ok ∧ t.waitId = s.frameId ∧
      t.inputs = rest ∧ onlyChanges (.waitId :: .inputs :: .cycle :: completionRegs) s t

/-- 43_exchange.md, the course of a query (R96, R97, R101, R102): sent however late, answered before
the TIMEOUT_MS-th tick by a frame with its identifier, other frames discarded on the way, it
completes OK with that frame captured. That the coming inputs stand in a list, of which the course
leaves `rest`, is the model's choice (log entry 1). -/
def Obligations.AnsweredQueryCapturesTheReply : Prop :=
  ∀ (s : State) (offer hand reply : Inputs) (waits others rest : List Inputs),
    s.fsm = .idle → s.frameValid = true → s.frameRtr = true →
    s.inputs = offer :: (waits ++ hand :: (others ++ reply :: rest)) →
    offer.rst = false → offer.cmdValid = true → offer.cmd = 0xC000 →
    (∀ i ∈ waits, i.rst = false ∧ i.txReady = false) →
    hand.rst = false → hand.txReady = true → hand.txOk = true →
    (∀ i ∈ others, noReplyIn s.frameId i) → ticksIn others < s.timeoutMs.toNat →
    reply.rst = false → reply.rxValid = true → reply.rxId = s.frameId →
    ∃ t, runFor (waits.length + others.length + 3) s = .next t ∧ completed t .ok ∧
      captured reply t ∧ t.waitId = s.frameId ∧ t.inputs = rest ∧
      onlyChanges (captureRegs ++ .waitId :: .tickCnt :: .inputs :: .cycle :: completionRegs) s t

/-- 43_exchange.md, the timeout (R102, R109, R110): a query under way to which no frame with its
identifier comes times out at exactly the tick that makes TIMEOUT_MS of them, not at an earlier
cycle, and completes with the timeout code; the frame that was sent stays readable. That the coming
inputs stand in a list, of which the wait leaves `rest`, is the model's choice (log entry 1). -/
def Obligations.UnansweredQueryTimesOutAtItsLastTick : Prop :=
  ∀ (s : State) (cycles rest : List Inputs) (last : Inputs),
    s.fsm = .waitRsp → s.inputs = cycles ++ last :: rest →
    (∀ i ∈ cycles, noReplyIn s.waitId i) → noReplyIn s.waitId last → last.msTick = true →
    s.tickCnt.toNat + ticksIn cycles + 1 = s.timeoutMs.toNat →
    (∀ k, k ≤ cycles.length → ∃ u, runFor k s = .next u ∧ u.fsm = .waitRsp) ∧
    ∃ t, runFor (cycles.length + 1) s = .next t ∧
      completed t (if s.silent then .defaulted else .timeout) ∧ t.inputs = rest ∧
      onlyChanges (.tickCnt :: .inputs :: .cycle :: completionRegs) s t

/-- 43_exchange.md, HB_WAIT (R104, R105, R110): the wait lasts as long as no frame with the awaited
identifier comes, whatever the ticks, with every register kept, and ends OK at the first one. That the
coming inputs stand in a list, of which the wait leaves `rest`, is the model's choice (log entry 1). -/
def Obligations.HeartbeatWaitLastsUntilTheHeartbeat : Prop :=
  ∀ (s : State) (cycles rest : List Inputs) (beat : Inputs),
    s.fsm = .waitHb → s.inputs = cycles ++ beat :: rest →
    (∀ i ∈ cycles, noReplyIn s.waitId i) →
    beat.rst = false → beat.rxValid = true → beat.rxId = s.waitId →
    (∀ k, k ≤ cycles.length →
      ∃ u, runFor k s = .next u ∧ u.fsm = .waitHb ∧ onlyChanges cycleRegs s u) ∧
    ∃ t, runFor (cycles.length + 1) s = .next t ∧ completed t .ok ∧ captured beat t ∧
      t.inputs = rest ∧ onlyChanges (captureRegs ++ .inputs :: .cycle :: completionRegs) s t

/-- 42_unpack.md section on buffer selection (R87) and 95_test_vectors.md L1-10: right after a wait
ends with a timeout code, the reply buffer reads zero, and every UNPACK of it whose field fits, of any
type at any offset, gives 0 (the pattern 0 is +0.0) and leaves the buffer zero for the next one. -/
def Obligations.TimedOutQueryReadsAsZero : Prop :=
  ∀ s t : State, Inv s → s.fsm = .waitRsp ∨ s.fsm = .tx → step s = .next t → t.rspV = true →
    t.lastCode = Code.timeout.bits ∨ t.lastCode = Code.defaulted.bits →
    (∀ a, t.rxBuf.readByte a = 0x00) ∧ t.rxDlc = 0 ∧
    ∀ (r : State) (off n : Nat), (∀ a, r.rxBuf.readByte a = t.rxBuf.readByte a) → off + n ≤ 8 →
      ∀ i ∈ [Instr.unpackU8 off .rx, Instr.unpackI16 off .rx, Instr.unpackI32 off .rx,
          Instr.unpackU32 off .rx, Instr.unpackF32 off .rx, Instr.unpackFf16 off .rx],
        fieldOf i = some (off, n) →
        ∃ u, exec i r = .next u ∧ completed u .ok ∧ u.result = 0 ∧
          onlyChanges (.result :: completionRegs) r u

/-! ## The whole machine -/

/-- 10_state.md R14 and R15 with 60_exceptions.md R115: no state stops the block: every step, and
every operation in every state, answers a next state. -/
def Obligations.NoStepEverStops : Prop :=
  (∀ s : State, ∃ t, step s = .next t) ∧ ∀ (i : Instr) (s : State), ∃ t, exec i s = .next t

/-- 10_state.md section 3 (R38): the good states are closed under every step, from every good state
and under any inputs. That the buffers keep their canonical form is the model's own (log entry 5). -/
def Obligations.EveryStepKeepsTheInvariant : Prop :=
  ∀ s t : State, Inv s → step s = .next t → Inv t

/-- 10_state.md section 3 (R38, R40): the reset state is good. -/
def Obligations.ResetStateIsGood : Prop := Inv State.reset

/-- 43_exchange.md section on the state machine (R108): the transitions of FSM, each with its cause (a
wait for a reply ends by a match or by the tick that is the timeout, R102; TX ends without a wait where
R97 says that none follows); no other exists. -/
def Obligations.EngineTakesOnlyTheListedTransitions : Prop :=
  ∀ s t : State, step s = .next t → s.now.rst = false → t.fsm ≠ s.fsm →
    (s.fsm = .idle ∧ t.fsm = .tx ∧ s.frameValid = true ∧ s.now.cmdValid = true ∧
      decode s.now.cmd s.now.data = .op .xchg) ∨
    (s.fsm = .idle ∧ t.fsm = .waitHb ∧ s.now.cmdValid = true ∧
      ∃ axis, axis ≤ 63 ∧ decode s.now.cmd s.now.data = .op (.hbWait axis)) ∨
    (s.fsm = .tx ∧ t.fsm = .idle ∧ s.now.txReady = true ∧ t.rspV = true ∧
      (s.now.txOk = false ∨ s.frameRtr = false ∨ s.timeoutMs = 0)) ∨
    (s.fsm = .tx ∧ t.fsm = .waitRsp ∧ s.now.txReady = true ∧ s.now.txOk = true ∧
      s.frameRtr = true ∧ 0 < s.timeoutMs.toNat) ∨
    (s.fsm = .waitRsp ∧ t.fsm = .idle ∧ t.rspV = true ∧
      ((s.now.rxValid = true ∧ s.now.rxId = s.waitId) ∨
        (s.now.msTick = true ∧ s.timeoutMs.toNat ≤ s.tickCnt.toNat + 1))) ∨
    (s.fsm = .waitHb ∧ t.fsm = .idle ∧ t.rspV = true ∧ s.now.rxValid = true ∧
      s.now.rxId = s.waitId)

/-- 10_state.md section 2 (R16, R18, R19) and 93_implementation_defined.md U16: an input that its
port does not read in a cycle has no effect at all: the step is that of the same cycle with those
inputs quiet. So a command offered to a busy block, a tick in TX or WAIT_HB, and the fields of a frame
that is not offered change nothing. -/
def Obligations.InputsNotReadHaveNoEffect : Prop :=
  ∀ (s : State) (i : Inputs) (rest : List Inputs),
    step { s with inputs := i :: rest } = step { s with inputs := readInputs s.fsm i :: rest }

/-- 20_memory.md section 5 (R55, R56) and 43_exchange.md R106: while the engine is busy and not
reset, nothing changes the frame, its payload, RESULT, the timeout or the policy, so the frame on the
port is the one the exchange was accepted with. -/
def Obligations.BusyEngineKeepsTheFrame : Prop :=
  ∀ s t : State, s.fsm ≠ .idle → s.now.rst = false → step s = .next t →
    (s.outputs false).cmdReady = false ∧ (s.outputs false).busy = true ∧
    onlyChanges (captureRegs ++ .tickCnt :: .inputs :: .cycle :: completionRegs) s t ∧
    (t.outputs false).txId = (s.outputs false).txId ∧
    (t.outputs false).txRtr = (s.outputs false).txRtr ∧
    (t.outputs false).txDlc = (s.outputs false).txDlc ∧
    (t.outputs false).txData = (s.outputs false).txData

/-- 10_state.md section 3 (R21 to R25, R30, R33, R34): each of these registers is written only by
the operations its rule names, only when they complete OK, and by reset; no step writes the
parameters (the model's choice, log entry 3). -/
def Obligations.RegistersAreWrittenOnlyByTheirOperations : Prop :=
  ∀ (s t : State) (r : Reg), r ∈ hostRegs → step s = .next t → s.now.rst = false →
    ¬ r.same s t →
    s.fsm = .idle ∧ s.now.cmdValid = true ∧ completed t .ok ∧
      ∃ i, decode s.now.cmd s.now.data = .op i ∧ i.opcode ∈ writersOf r

/-- 10_state.md section 3 (R26 to R29) and 43_exchange.md R101: the reply registers change only by
the capture of a matching frame in a wait, or, RX_BUF and RX_DLC, by being zeroed where a query or a
heartbeat wait is accepted; a frame that does not match changes none of them. -/
def Obligations.ReplyIsWrittenOnlyByWaits : Prop :=
  ∀ (s t : State) (r : Reg), r ∈ captureRegs → step s = .next t → s.now.rst = false →
    ¬ r.same s t →
    ((s.fsm = .waitRsp ∨ s.fsm = .waitHb) ∧ s.now.rxValid = true ∧ s.now.rxId = s.waitId ∧
      captured s.now t) ∨
    (s.fsm = .idle ∧ (t.fsm = .tx ∧ t.frameRtr = true ∨ t.fsm = .waitHb) ∧
      (r = .rxBuf ∨ r = .rxDlc) ∧ (∀ a, t.rxBuf.readByte a = 0x00) ∧ t.rxDlc = 0)

/-- 60_exceptions.md section 1 (R112): at the edge where an operation completes with a code other
than OK, nothing is written but the completion itself, in every state of the engine. -/
def Obligations.FailureWritesOnlyTheCompletion : Prop :=
  ∀ s t : State, step s = .next t → s.now.rst = false → t.rspV = true →
    t.lastCode ≠ Code.ok.bits →
    t.fsm = .idle ∧ onlyChanges (.inputs :: .cycle :: completionRegs) s t

/-- 60_exceptions.md section 1 (R111): every completion shows a code that the table gives to the
operation in flight, and under the cause the table gives that code: `failsWith` at acceptance, the
transport's answer in TX (43_exchange.md R97), a match or the expiring tick in WAIT_RSP (R102), a match
in WAIT_HB (R105). Codes 12 to 15 are never shown. -/
def Obligations.ResultCodesComeFromTheirOperations : Prop :=
  ∀ s t : State, step s = .next t → s.now.rst = false → t.rspV = true →
    ∃ c : Code, t.lastCode = c.bits ∧ t.lastCode.toNat ≤ 11 ∧
      ((s.fsm = .idle ∧ s.now.cmdValid = true ∧ c = .illegal ∧ legalWord s.now.cmd = false) ∨
       (s.fsm = .idle ∧ s.now.cmdValid = true ∧
         ∃ i, decode s.now.cmd s.now.data = .op i ∧ c ∈ codesOf i.opcode ∧
           (failsWith i s c ∨ c = .ok ∧ ∀ f, ¬ failsWith i s f)) ∨
       (s.fsm = .tx ∧ s.now.txReady = true ∧
         ((c = .errSend ∧ s.now.txOk = false) ∨
          (c = .ok ∧ s.now.txOk = true ∧ s.frameRtr = false) ∨
          (s.now.txOk = true ∧ s.frameRtr = true ∧ s.timeoutMs = 0 ∧
            (c = .timeout ∧ s.silent = false ∨ c = .defaulted ∧ s.silent = true)))) ∨
       (s.fsm = .waitRsp ∧
         ((c = .ok ∧ s.now.rxValid = true ∧ s.now.rxId = s.waitId) ∨
          (¬(s.now.rxValid = true ∧ s.now.rxId = s.waitId) ∧ s.now.msTick = true ∧
            s.timeoutMs.toNat ≤ s.tickCnt.toNat + 1 ∧
            (c = .timeout ∧ s.silent = false ∨ c = .defaulted ∧ s.silent = true)))) ∨
       (s.fsm = .waitHb ∧ c = .ok ∧ s.now.rxValid = true ∧ s.now.rxId = s.waitId))

/-- 10_state.md section 2 (R16 to R19) and 20_memory.md section 2 (R45): the outputs of a cycle; byte
i of the payload stands on bits [8i+7:8i] of `tx_data`. -/
def Obligations.OutputPortsShowTheirRegisters : Prop :=
  ∀ (s : State) (rst : Bool),
    ((s.outputs rst).cmdReady = true ↔ s.fsm = .idle ∧ rst = false) ∧
    (s.outputs rst).rspValid = s.rspV ∧ (s.outputs rst).rspCode = s.lastCode ∧
    (s.outputs rst).result = s.result ∧ ((s.outputs rst).busy = true ↔ s.fsm ≠ .idle) ∧
    ((s.outputs rst).txValid = true ↔ s.fsm = .tx ∧ rst = false) ∧
    (s.outputs rst).txId = s.frameId ∧ (s.outputs rst).txRtr = s.frameRtr ∧
    (s.outputs rst).txDlc = s.frameDlc ∧
    (∀ k, k < 8 → (s.outputs rst).txData.extractLsb' (8 * k) 8 = s.txBuf.readByte k) ∧
    ((s.outputs rst).rxReady = true ↔ (s.fsm = .waitRsp ∨ s.fsm = .waitHb) ∧ rst = false)

/-- 10_state.md section 2 (R17, R32): `rsp_valid` is 1 in exactly the one cycle after an operation
completes: a step that completes none leaves it 0, and a step that leaves it 1 leaves the block
IDLE. -/
def Obligations.CompletionPulseLastsOneCycle : Prop :=
  ∀ s t : State, step s = .next t →
    (t.rspV = true → t.fsm = .idle ∧ s.now.rst = false ∧
      (s.fsm = .idle → s.now.cmdValid = true)) ∧
    (t.fsm ≠ .idle → t.rspV = false) ∧ (s.now.rst = true → t.rspV = false) ∧
    (s.fsm ≠ .idle → t.fsm = .idle → s.now.rst = false → t.rspV = true)
end

