-- ==== Sys2Proof/Laws/Decode.lean ====
section
/-! SUPPORT. What the decoder can answer, said once: by the opcode field and the reserved bits. -/

namespace Sys2Proof

/-- A reserved opcode is ILLEGAL. -/
theorem decode_reserved (cmd : CmdWord) (data : DataWord) (h : opcodeOfBits (opcField cmd) = none) :
    decode cmd data = .illegal .reservedOpcode := by
  unfold decode
  rw [h]

/-- A defined opcode with a reserved bit set is ILLEGAL. -/
theorem decode_reservedBit (cmd : CmdWord) (data : DataWord) (o : Opcode)
    (h : opcodeOfBits (opcField cmd) = some o) (hb : cmd &&& o.format.reservedMask ≠ 0) :
    decode cmd data = .illegal .reservedBit := by
  unfold decode
  rw [h]
  exact if_neg hb

/-- A defined opcode with its reserved bits clear reads its fields. -/
theorem decode_fields (cmd : CmdWord) (data : DataWord) (o : Opcode)
    (h : opcodeOfBits (opcField cmd) = some o) (hb : cmd &&& o.format.reservedMask = 0) :
    decode cmd data = decodeFields o cmd data := by
  unfold decode
  rw [h]
  exact if_pos hb

/-- The three cases of the decoder. -/
theorem decode_cases (cmd : CmdWord) (data : DataWord) :
    (opcodeOfBits (opcField cmd) = none ∧ decode cmd data = .illegal .reservedOpcode) ∨
      (∃ o, opcodeOfBits (opcField cmd) = some o ∧ cmd &&& o.format.reservedMask ≠ 0 ∧
        decode cmd data = .illegal .reservedBit) ∨
      ∃ o, opcodeOfBits (opcField cmd) = some o ∧ cmd &&& o.format.reservedMask = 0 ∧
        decode cmd data = decodeFields o cmd data := by
  cases h : opcodeOfBits (opcField cmd) with
  | none => exact .inl ⟨rfl, decode_reserved cmd data h⟩
  | some o =>
    by_cases hb : cmd &&& o.format.reservedMask = 0
    · exact .inr (.inr ⟨o, rfl, hb, decode_fields cmd data o h hb⟩)
    · exact .inr (.inl ⟨o, rfl, hb, decode_reservedBit cmd data o h hb⟩)

/-- The operands a word leaves out do not decide whether its fields are an operation. -/
theorem decodeFields_illegal_iff (o : Opcode) (cmd : CmdWord) (d d' : DataWord) (why : Illegal) :
    decodeFields o cmd d = .illegal why ↔ decodeFields o cmd d' = .illegal why := by
  cases o <;> simp only [decodeFields, decodeIdDec, reduceCtorEq]
  split <;> simp

/-- Whether a word is ILLEGAL, and why, does not depend on its data word. -/
theorem decode_illegal_iff (cmd : CmdWord) (d d' : DataWord) (why : Illegal) :
    decode cmd d = .illegal why ↔ decode cmd d' = .illegal why := by
  rcases decode_cases cmd d with ⟨h, hd⟩ | ⟨o, h, hb, hd⟩ | ⟨o, h, hb, hd⟩
  · rw [hd, decode_reserved cmd d' h]
  · rw [hd, decode_reservedBit cmd d' o h hb]
  · rw [hd, decode_fields cmd d' o h hb]
    exact decodeFields_illegal_iff o cmd d d' why

/-- The high half of a data word as an integer. -/
theorem highHalf_eq (d : DataWord) : highHalf d = d.toNat / 65536 := by
  have := d.isLt
  simp [highHalf, BitVec.extractLsb'_toNat, Nat.shiftRight_eq_div_pow]
  omega

/-- The low half of a data word as an integer. -/
theorem lowHalf_eq (d : DataWord) : lowHalf d = d.toNat % 65536 := by
  simp [lowHalf, BitVec.extractLsb'_toNat]

end Sys2Proof
end

