-- ==== Sys2Proof/Laws/Memory.lean ====
section
/-! SUPPORT. The laws of the buffers: a read after a write gives the value written, a write leaves
every other byte alone, and every memory operation keeps the canonical form. -/

namespace Sys2Proof.Machine

/-! ## One byte -/

@[simp] theorem Memory.readByte_nil (a : Nat) : Memory.readByte [] a = 0 := rfl

@[simp] theorem Memory.readByte_zeroed (a : Nat) : Memory.readByte Memory.zeroed a = 0 := rfl

theorem Memory.readByte_cons (c : Nat) (d : Byte) (rest : Memory) (a : Nat) :
    Memory.readByte ((c, d) :: rest) a = if c = a then d else Memory.readByte rest a := rfl

theorem Memory.drop_cons (c : Nat) (d : Byte) (rest : Memory) (a : Nat) :
    Memory.drop ((c, d) :: rest) a =
      if c = a then Memory.drop rest a else (c, d) :: Memory.drop rest a := by
  by_cases h : c = a <;> simp [Memory.drop, h]

theorem Memory.readByte_drop (m : Memory) (a b : Nat) :
    (m.drop a).readByte b = if b = a then 0 else m.readByte b := by
  induction m with
  | nil => simp [Memory.drop]
  | cons cell rest ih =>
    obtain ⟨c, d⟩ := cell
    rw [Memory.drop_cons]
    by_cases hc : c = a
    · rw [if_pos hc, ih, Memory.readByte_cons]
      by_cases hb : b = a
      · simp [hb]
      · simp [hb, show ¬ c = b by omega]
    · rw [if_neg hc, Memory.readByte_cons, ih, Memory.readByte_cons]
      by_cases hb : b = a
      · simp [hb, show ¬ c = a from hc]
      · simp [hb]

theorem Memory.readByte_insertCell (m : Memory) (a b : Nat) (v : Byte) (fresh : m.readByte a = 0)
    (absent : ∀ d, (a, d) ∉ m) :
    (m.insertCell a v).readByte b = if b = a then v else m.readByte b := by
  induction m with
  | nil => simp only [Memory.insertCell, Memory.readByte_cons, eq_comm]
  | cons cell rest ih =>
    obtain ⟨c, d⟩ := cell
    have hca : c ≠ a := fun h => absent d (by simp [h])
    simp only [Memory.insertCell]
    split
    · simp only [Memory.readByte_cons, eq_comm]
    · rw [Memory.readByte_cons, Memory.readByte_cons,
        ih (by simpa [Memory.readByte_cons, hca] using fresh)
          (fun e he => absent e (List.mem_cons_of_mem _ he))]
      by_cases hb : b = a
      · simp [hb, hca]
      · simp [hb]

theorem Memory.not_mem_drop (m : Memory) (a : Nat) (d : Byte) : (a, d) ∉ m.drop a := by
  simp [Memory.drop]

/-- A read after a write of one byte. -/
theorem Memory.readByte_writeByte (m : Memory) (a b : Nat) (v : Byte) :
    (m.writeByte a v).readByte b = if b = a then v else m.readByte b := by
  unfold Memory.writeByte
  split
  next hv => rw [Memory.readByte_drop, hv]; rfl
  next =>
    rw [Memory.readByte_insertCell _ _ _ _ (by simp [Memory.readByte_drop])
      (fun d => Memory.not_mem_drop m a d), Memory.readByte_drop]
    by_cases hb : b = a <;> simp [hb]

/-! ## Fields -/

/-- A write of a field leaves every byte outside it. -/
theorem Memory.readByte_writeLE_outside (n : Nat) : ∀ (m : Memory) (off v a : Nat),
    a < off ∨ off + n ≤ a → (m.writeLE off n v).readByte a = m.readByte a := by
  induction n with
  | zero => intros; rfl
  | succ n ih =>
    intro m off v a h
    rw [Memory.writeLE, ih _ _ _ _ (by omega), Memory.readByte_writeByte, if_neg (by omega)]

/-- A write of a field stores byte `k` of its value at `off + k`. -/
theorem Memory.readByte_writeLE_inside (n : Nat) : ∀ (m : Memory) (off v k : Nat), k < n →
    (m.writeLE off n v).readByte (off + k) = BitVec.ofNat 8 (v / 256 ^ k) := by
  induction n with
  | zero => intro _ _ _ k h; omega
  | succ n ih =>
    intro m off v k h
    rw [Memory.writeLE]
    cases k with
    | zero =>
      rw [Memory.readByte_writeLE_outside _ _ _ _ _ (by omega), Memory.readByte_writeByte]
      simp
    | succ k =>
      rw [show off + (k + 1) = off + 1 + k by omega, ih _ _ _ _ (by omega), Nat.div_div_eq_div_mul]
      congr 2
      rw [pow_succ, Nat.mul_comm]

/-- A field reads the same wherever its bytes do. -/
theorem Memory.readLE_congr (n : Nat) : ∀ (m m' : Memory) (off off' : Nat),
    (∀ k, k < n → m.readByte (off + k) = m'.readByte (off' + k)) →
    m.readLE off n = m'.readLE off' n := by
  induction n with
  | zero => intros; rfl
  | succ n ih =>
    intro m m' off off' h
    have h0 := h 0 (by omega)
    simp only [Nat.add_zero] at h0
    rw [Memory.readLE, Memory.readLE, h0, ih m m' (off + 1) (off' + 1) fun k hk => by
      have := h (k + 1) (by omega)
      rwa [show off + 1 + k = off + (k + 1) by omega, show off' + 1 + k = off' + (k + 1) by omega]]

/-- A field of `n` bytes is below `256 ^ n`. -/
theorem Memory.readLE_lt (n : Nat) : ∀ (m : Memory) (off : Nat), m.readLE off n < 256 ^ n := by
  induction n with
  | zero => intros; simp [Memory.readLE]
  | succ n ih =>
    intro m off
    have h1 := ih m (off + 1)
    have h2 := (m.readByte off).isLt
    rw [Memory.readLE, pow_succ]
    omega

/-- Byte `k` of the integer a field reads as is the byte at `off + k`. -/
theorem Memory.byte_readLE (n : Nat) : ∀ (m : Memory) (off k : Nat), k < n →
    BitVec.ofNat 8 (m.readLE off n / 256 ^ k) = m.readByte (off + k) := by
  induction n with
  | zero => intro _ _ k h; omega
  | succ n ih =>
    intro m off k h
    have hb := (m.readByte off).isLt
    rw [Memory.readLE]
    cases k with
    | zero =>
      apply BitVec.eq_of_toNat_eq
      simp only [pow_zero, Nat.div_one, BitVec.toNat_ofNat, Nat.add_zero]
      omega
    | succ k =>
      rw [pow_succ, Nat.mul_comm (256 ^ k) 256, ← Nat.div_div_eq_div_mul,
        show ((m.readByte off).toNat + 256 * m.readLE (off + 1) n) / 256 = m.readLE (off + 1) n by
          omega, ih _ _ _ (by omega)]
      congr 1
      omega

/-- A field that holds the bytes of an integer reads as that integer. -/
theorem Memory.readLE_of_bytes (n : Nat) : ∀ (m : Memory) (off v : Nat), v < 256 ^ n →
    (∀ k, k < n → m.readByte (off + k) = BitVec.ofNat 8 (v / 256 ^ k)) → m.readLE off n = v := by
  induction n with
  | zero => intro _ _ v hv _; simp at hv; simp [Memory.readLE, hv]
  | succ n ih =>
    intro m off v hv h
    have h0 := h 0 (by omega)
    simp only [Nat.add_zero, pow_zero, Nat.div_one] at h0
    rw [pow_succ] at hv
    rw [Memory.readLE, h0, ih m (off + 1) (v / 256) (by omega) fun k hk => by
      rw [show off + 1 + k = off + (k + 1) by omega, h (k + 1) (by omega), Nat.div_div_eq_div_mul,
        pow_succ, Nat.mul_comm]]
    rw [BitVec.toNat_ofNat]
    omega

/-! ## The canonical form -/

theorem Memory.wfFrom_mono (m : Memory) : ∀ {lo lo' : Nat}, lo ≤ lo' →
    Memory.wfFrom lo' m = true → Memory.wfFrom lo m = true := by
  cases m with
  | nil => intros; rfl
  | cons cell rest =>
    intro lo lo' hl h
    simp only [Memory.wfFrom, Bool.and_eq_true, decide_eq_true_eq] at h ⊢
    exact ⟨⟨⟨by omega, h.1.1.2⟩, h.1.2⟩, h.2⟩

theorem Memory.wfFrom_drop (m : Memory) (a : Nat) : ∀ {lo : Nat},
    Memory.wfFrom lo m = true → Memory.wfFrom lo (m.drop a) = true := by
  induction m with
  | nil => intros; rfl
  | cons cell rest ih =>
    obtain ⟨c, d⟩ := cell
    intro lo h
    rw [Memory.drop_cons]
    simp only [Memory.wfFrom, Bool.and_eq_true, decide_eq_true_eq] at h
    split
    · exact Memory.wfFrom_mono _ (by omega) (ih h.2)
    · simp only [Memory.wfFrom, Bool.and_eq_true, decide_eq_true_eq]
      exact ⟨h.1, ih h.2⟩

theorem Memory.wfFrom_insertCell (m : Memory) (a : Nat) (v : Byte) (ha : a < bufferSize)
    (hv : v ≠ unlistedByte) (absent : ∀ d, (a, d) ∉ m) : ∀ {lo : Nat}, lo ≤ a →
    Memory.wfFrom lo m = true → Memory.wfFrom lo (m.insertCell a v) = true := by
  induction m with
  | nil => intro lo hl _; simp [Memory.insertCell, Memory.wfFrom, ha, hv, hl]
  | cons cell rest ih =>
    obtain ⟨c, d⟩ := cell
    intro lo hl h
    have hca : c ≠ a := fun e => absent d (by simp [e])
    simp only [Memory.wfFrom, Bool.and_eq_true, decide_eq_true_eq] at h
    simp only [Memory.insertCell]
    split
    · simp only [Memory.wfFrom, Bool.and_eq_true, decide_eq_true_eq]
      exact ⟨⟨⟨hl, ha⟩, by simpa using hv⟩, ⟨⟨by omega, h.1.1.2⟩, h.1.2⟩, h.2⟩
    · simp only [Memory.wfFrom, Bool.and_eq_true, decide_eq_true_eq]
      exact ⟨h.1, ih (fun e he => absent e (List.mem_cons_of_mem _ he)) (by omega) h.2⟩

theorem Memory.wf_zeroed : Memory.wf Memory.zeroed = true := rfl

theorem Memory.wf_drop (m : Memory) (a : Nat) (h : m.wf = true) : (m.drop a).wf = true :=
  Memory.wfFrom_drop m a h

/-- Writing a byte inside the buffer keeps the canonical form. -/
theorem Memory.wf_writeByte (m : Memory) (a : Nat) (v : Byte) (ha : a < bufferSize)
    (h : m.wf = true) : (m.writeByte a v).wf = true := by
  unfold Memory.writeByte
  split
  next => exact Memory.wf_drop m a h
  next hv =>
    exact Memory.wfFrom_insertCell _ a v ha hv (Memory.not_mem_drop m a) (Nat.zero_le a)
      (Memory.wf_drop m a h)

/-- Writing a field inside the buffer keeps the canonical form. -/
theorem Memory.wf_writeLE (n : Nat) : ∀ (m : Memory) (off v : Nat), off + n ≤ bufferSize →
    m.wf = true → (m.writeLE off n v).wf = true := by
  induction n with
  | zero => intros; assumption
  | succ n ih =>
    intro m off v hb h
    exact ih _ _ _ (by omega) (Memory.wf_writeByte m off _ (by omega) h)

/-! ## MemRead and MemWrite -/

/-- What MemRead answers, inside the buffer and outside it. -/
theorem Memory.load_eq (m : Memory) (off n : Nat) :
    m.load off n = if off + n ≤ 8 then some (m.readLE off n) else none := rfl

/-- What MemWrite answers, inside the buffer and outside it. -/
theorem Memory.store_eq (m : Memory) (off n v : Nat) :
    m.store off n v = if off + n ≤ 8 then some (m.writeLE off n v) else none := rfl

/-- MemWrite keeps the canonical form. -/
theorem Memory.wf_store (m m' : Memory) (off n v : Nat) (h : m.wf = true)
    (hs : m.store off n v = some m') : m'.wf = true := by
  rw [Memory.store_eq] at hs
  split at hs
  next hb => cases hs; exact Memory.wf_writeLE n m off v hb h
  next => cases hs

/-- A received payload is stored in canonical form. -/
theorem Memory.wf_ofPayload (d : Nat) (p : BitVec 64) (hd : d ≤ bufferSize) :
    (Memory.ofPayload d p).wf = true :=
  Memory.wf_writeLE d _ 0 _ (by omega) Memory.wf_zeroed

/-- The bytes of a received payload: its own below the length, zero beyond it. -/
theorem Memory.readByte_ofPayload (d : Nat) (p : BitVec 64) (k : Nat) :
    (Memory.ofPayload d p).readByte k =
      if k < d then BitVec.ofNat 8 (p.toNat / 256 ^ k) else 0 := by
  unfold Memory.ofPayload
  split
  next h =>
    have := Memory.readByte_writeLE_inside d Memory.zeroed 0 p.toNat k h
    rwa [Nat.zero_add] at this
  next h =>
    rw [Memory.readByte_writeLE_outside _ _ _ _ _ (Or.inr (by omega)), Memory.readByte_zeroed]

/-- Byte `k` of an integer value is the byte of its bit pattern. -/
theorem byte_of_toNat {w : Nat} (v : BitVec w) (k : Nat) :
    BitVec.ofNat 8 (v.toNat / 256 ^ k) = v.extractLsb' (8 * k) 8 := by
  apply BitVec.eq_of_toNat_eq
  rw [BitVec.toNat_ofNat, BitVec.extractLsb'_toNat, Nat.shiftRight_eq_div_pow,
    show (256 : Nat) = 2 ^ 8 by norm_num, ← pow_mul]

end Sys2Proof.Machine
end

