-- ==== Sys2Proof/Laws/State.lean ====
section
/-! SUPPORT. What each update of State does to each field: one lemma per field per update, true by
definition, so that no later proof unfolds a record update. -/

namespace Sys2Proof.Machine

/-! ## State.beginCycle -/

@[simp] theorem State.beginCycle_frameId (s : State) : (s.beginCycle).frameId = s.frameId := rfl
@[simp] theorem State.beginCycle_frameRtr (s : State) : (s.beginCycle).frameRtr = s.frameRtr := rfl
@[simp] theorem State.beginCycle_frameValid (s : State) :
    (s.beginCycle).frameValid = s.frameValid := rfl
@[simp] theorem State.beginCycle_frameDlc (s : State) : (s.beginCycle).frameDlc = s.frameDlc := rfl
@[simp] theorem State.beginCycle_txBuf (s : State) : (s.beginCycle).txBuf = s.txBuf := rfl
@[simp] theorem State.beginCycle_rxId (s : State) : (s.beginCycle).rxId = s.rxId := rfl
@[simp] theorem State.beginCycle_rxRtr (s : State) : (s.beginCycle).rxRtr = s.rxRtr := rfl
@[simp] theorem State.beginCycle_rxDlc (s : State) : (s.beginCycle).rxDlc = s.rxDlc := rfl
@[simp] theorem State.beginCycle_rxBuf (s : State) : (s.beginCycle).rxBuf = s.rxBuf := rfl
@[simp] theorem State.beginCycle_result (s : State) : (s.beginCycle).result = s.result := rfl
@[simp] theorem State.beginCycle_lastCode (s : State) : (s.beginCycle).lastCode = s.lastCode := rfl
@[simp] theorem State.beginCycle_rspV (s : State) : (s.beginCycle).rspV = false := rfl
@[simp] theorem State.beginCycle_timeoutMs (s : State) :
    (s.beginCycle).timeoutMs = s.timeoutMs := rfl
@[simp] theorem State.beginCycle_silent (s : State) : (s.beginCycle).silent = s.silent := rfl
@[simp] theorem State.beginCycle_fsm (s : State) : (s.beginCycle).fsm = s.fsm := rfl
@[simp] theorem State.beginCycle_tickCnt (s : State) : (s.beginCycle).tickCnt = s.tickCnt := rfl
@[simp] theorem State.beginCycle_waitId (s : State) : (s.beginCycle).waitId = s.waitId := rfl
@[simp] theorem State.beginCycle_cfg (s : State) : (s.beginCycle).cfg = s.cfg := rfl
@[simp] theorem State.beginCycle_inputs (s : State) : (s.beginCycle).inputs = s.inputs.tail := rfl
@[simp] theorem State.beginCycle_cycle (s : State) : (s.beginCycle).cycle = s.cycle + 1 := rfl

/-! ## State.resetRegisters -/

@[simp] theorem State.resetRegisters_frameId (s : State) :
    (s.resetRegisters).frameId = State.reset.frameId := rfl
@[simp] theorem State.resetRegisters_frameRtr (s : State) :
    (s.resetRegisters).frameRtr = State.reset.frameRtr := rfl
@[simp] theorem State.resetRegisters_frameValid (s : State) :
    (s.resetRegisters).frameValid = State.reset.frameValid := rfl
@[simp] theorem State.resetRegisters_frameDlc (s : State) :
    (s.resetRegisters).frameDlc = State.reset.frameDlc := rfl
@[simp] theorem State.resetRegisters_txBuf (s : State) :
    (s.resetRegisters).txBuf = State.reset.txBuf := rfl
@[simp] theorem State.resetRegisters_rxId (s : State) :
    (s.resetRegisters).rxId = State.reset.rxId := rfl
@[simp] theorem State.resetRegisters_rxRtr (s : State) :
    (s.resetRegisters).rxRtr = State.reset.rxRtr := rfl
@[simp] theorem State.resetRegisters_rxDlc (s : State) :
    (s.resetRegisters).rxDlc = State.reset.rxDlc := rfl
@[simp] theorem State.resetRegisters_rxBuf (s : State) :
    (s.resetRegisters).rxBuf = State.reset.rxBuf := rfl
@[simp] theorem State.resetRegisters_result (s : State) :
    (s.resetRegisters).result = State.reset.result := rfl
@[simp] theorem State.resetRegisters_lastCode (s : State) :
    (s.resetRegisters).lastCode = State.reset.lastCode := rfl
@[simp] theorem State.resetRegisters_rspV (s : State) :
    (s.resetRegisters).rspV = State.reset.rspV := rfl
@[simp] theorem State.resetRegisters_timeoutMs (s : State) :
    (s.resetRegisters).timeoutMs = State.reset.timeoutMs := rfl
@[simp] theorem State.resetRegisters_silent (s : State) :
    (s.resetRegisters).silent = State.reset.silent := rfl
@[simp] theorem State.resetRegisters_fsm (s : State) :
    (s.resetRegisters).fsm = State.reset.fsm := rfl
@[simp] theorem State.resetRegisters_tickCnt (s : State) :
    (s.resetRegisters).tickCnt = State.reset.tickCnt := rfl
@[simp] theorem State.resetRegisters_waitId (s : State) :
    (s.resetRegisters).waitId = State.reset.waitId := rfl
@[simp] theorem State.resetRegisters_cfg (s : State) : (s.resetRegisters).cfg = s.cfg := rfl
@[simp] theorem State.resetRegisters_inputs (s : State) :
    (s.resetRegisters).inputs = s.inputs := rfl
@[simp] theorem State.resetRegisters_cycle (s : State) : (s.resetRegisters).cycle = s.cycle := rfl

/-! ## State.complete -/

@[simp] theorem State.complete_frameId (s : State) (c : Code) :
    (s.complete c).frameId = s.frameId := rfl
@[simp] theorem State.complete_frameRtr (s : State) (c : Code) :
    (s.complete c).frameRtr = s.frameRtr := rfl
@[simp] theorem State.complete_frameValid (s : State) (c : Code) :
    (s.complete c).frameValid = s.frameValid := rfl
@[simp] theorem State.complete_frameDlc (s : State) (c : Code) :
    (s.complete c).frameDlc = s.frameDlc := rfl
@[simp] theorem State.complete_txBuf (s : State) (c : Code) : (s.complete c).txBuf = s.txBuf := rfl
@[simp] theorem State.complete_rxId (s : State) (c : Code) : (s.complete c).rxId = s.rxId := rfl
@[simp] theorem State.complete_rxRtr (s : State) (c : Code) : (s.complete c).rxRtr = s.rxRtr := rfl
@[simp] theorem State.complete_rxDlc (s : State) (c : Code) : (s.complete c).rxDlc = s.rxDlc := rfl
@[simp] theorem State.complete_rxBuf (s : State) (c : Code) : (s.complete c).rxBuf = s.rxBuf := rfl
@[simp] theorem State.complete_result (s : State) (c : Code) :
    (s.complete c).result = s.result := rfl
@[simp] theorem State.complete_lastCode (s : State) (c : Code) :
    (s.complete c).lastCode = c.bits := rfl
@[simp] theorem State.complete_rspV (s : State) (c : Code) : (s.complete c).rspV = true := rfl
@[simp] theorem State.complete_timeoutMs (s : State) (c : Code) :
    (s.complete c).timeoutMs = s.timeoutMs := rfl
@[simp] theorem State.complete_silent (s : State) (c : Code) :
    (s.complete c).silent = s.silent := rfl
@[simp] theorem State.complete_fsm (s : State) (c : Code) : (s.complete c).fsm = .idle := rfl
@[simp] theorem State.complete_tickCnt (s : State) (c : Code) :
    (s.complete c).tickCnt = s.tickCnt := rfl
@[simp] theorem State.complete_waitId (s : State) (c : Code) :
    (s.complete c).waitId = s.waitId := rfl
@[simp] theorem State.complete_cfg (s : State) (c : Code) : (s.complete c).cfg = s.cfg := rfl
@[simp] theorem State.complete_inputs (s : State) (c : Code) :
    (s.complete c).inputs = s.inputs := rfl
@[simp] theorem State.complete_cycle (s : State) (c : Code) : (s.complete c).cycle = s.cycle := rfl

/-! ## State.setHeader -/

@[simp] theorem State.setHeader_frameId (s : State) (id : CanId) (rtr : Bool) :
    (s.setHeader id rtr).frameId = id := rfl
@[simp] theorem State.setHeader_frameRtr (s : State) (id : CanId) (rtr : Bool) :
    (s.setHeader id rtr).frameRtr = rtr := rfl
@[simp] theorem State.setHeader_frameValid (s : State) (id : CanId) (rtr : Bool) :
    (s.setHeader id rtr).frameValid = true := rfl
@[simp] theorem State.setHeader_frameDlc (s : State) (id : CanId) (rtr : Bool) :
    (s.setHeader id rtr).frameDlc = s.frameDlc := rfl
@[simp] theorem State.setHeader_txBuf (s : State) (id : CanId) (rtr : Bool) :
    (s.setHeader id rtr).txBuf = s.txBuf := rfl
@[simp] theorem State.setHeader_rxId (s : State) (id : CanId) (rtr : Bool) :
    (s.setHeader id rtr).rxId = s.rxId := rfl
@[simp] theorem State.setHeader_rxRtr (s : State) (id : CanId) (rtr : Bool) :
    (s.setHeader id rtr).rxRtr = s.rxRtr := rfl
@[simp] theorem State.setHeader_rxDlc (s : State) (id : CanId) (rtr : Bool) :
    (s.setHeader id rtr).rxDlc = s.rxDlc := rfl
@[simp] theorem State.setHeader_rxBuf (s : State) (id : CanId) (rtr : Bool) :
    (s.setHeader id rtr).rxBuf = s.rxBuf := rfl
@[simp] theorem State.setHeader_result (s : State) (id : CanId) (rtr : Bool) :
    (s.setHeader id rtr).result = s.result := rfl
@[simp] theorem State.setHeader_lastCode (s : State) (id : CanId) (rtr : Bool) :
    (s.setHeader id rtr).lastCode = s.lastCode := rfl
@[simp] theorem State.setHeader_rspV (s : State) (id : CanId) (rtr : Bool) :
    (s.setHeader id rtr).rspV = s.rspV := rfl
@[simp] theorem State.setHeader_timeoutMs (s : State) (id : CanId) (rtr : Bool) :
    (s.setHeader id rtr).timeoutMs = s.timeoutMs := rfl
@[simp] theorem State.setHeader_silent (s : State) (id : CanId) (rtr : Bool) :
    (s.setHeader id rtr).silent = s.silent := rfl
@[simp] theorem State.setHeader_fsm (s : State) (id : CanId) (rtr : Bool) :
    (s.setHeader id rtr).fsm = s.fsm := rfl
@[simp] theorem State.setHeader_tickCnt (s : State) (id : CanId) (rtr : Bool) :
    (s.setHeader id rtr).tickCnt = s.tickCnt := rfl
@[simp] theorem State.setHeader_waitId (s : State) (id : CanId) (rtr : Bool) :
    (s.setHeader id rtr).waitId = s.waitId := rfl
@[simp] theorem State.setHeader_cfg (s : State) (id : CanId) (rtr : Bool) :
    (s.setHeader id rtr).cfg = s.cfg := rfl
@[simp] theorem State.setHeader_inputs (s : State) (id : CanId) (rtr : Bool) :
    (s.setHeader id rtr).inputs = s.inputs := rfl
@[simp] theorem State.setHeader_cycle (s : State) (id : CanId) (rtr : Bool) :
    (s.setHeader id rtr).cycle = s.cycle := rfl

/-! ## State.setDlc -/

@[simp] theorem State.setDlc_frameId (s : State) (len : BitVec 4) :
    (s.setDlc len).frameId = s.frameId := rfl
@[simp] theorem State.setDlc_frameRtr (s : State) (len : BitVec 4) :
    (s.setDlc len).frameRtr = s.frameRtr := rfl
@[simp] theorem State.setDlc_frameValid (s : State) (len : BitVec 4) :
    (s.setDlc len).frameValid = s.frameValid := rfl
@[simp] theorem State.setDlc_frameDlc (s : State) (len : BitVec 4) :
    (s.setDlc len).frameDlc = len := rfl
@[simp] theorem State.setDlc_txBuf (s : State) (len : BitVec 4) :
    (s.setDlc len).txBuf = s.txBuf := rfl
@[simp] theorem State.setDlc_rxId (s : State) (len : BitVec 4) : (s.setDlc len).rxId = s.rxId := rfl
@[simp] theorem State.setDlc_rxRtr (s : State) (len : BitVec 4) :
    (s.setDlc len).rxRtr = s.rxRtr := rfl
@[simp] theorem State.setDlc_rxDlc (s : State) (len : BitVec 4) :
    (s.setDlc len).rxDlc = s.rxDlc := rfl
@[simp] theorem State.setDlc_rxBuf (s : State) (len : BitVec 4) :
    (s.setDlc len).rxBuf = s.rxBuf := rfl
@[simp] theorem State.setDlc_result (s : State) (len : BitVec 4) :
    (s.setDlc len).result = s.result := rfl
@[simp] theorem State.setDlc_lastCode (s : State) (len : BitVec 4) :
    (s.setDlc len).lastCode = s.lastCode := rfl
@[simp] theorem State.setDlc_rspV (s : State) (len : BitVec 4) : (s.setDlc len).rspV = s.rspV := rfl
@[simp] theorem State.setDlc_timeoutMs (s : State) (len : BitVec 4) :
    (s.setDlc len).timeoutMs = s.timeoutMs := rfl
@[simp] theorem State.setDlc_silent (s : State) (len : BitVec 4) :
    (s.setDlc len).silent = s.silent := rfl
@[simp] theorem State.setDlc_fsm (s : State) (len : BitVec 4) : (s.setDlc len).fsm = s.fsm := rfl
@[simp] theorem State.setDlc_tickCnt (s : State) (len : BitVec 4) :
    (s.setDlc len).tickCnt = s.tickCnt := rfl
@[simp] theorem State.setDlc_waitId (s : State) (len : BitVec 4) :
    (s.setDlc len).waitId = s.waitId := rfl
@[simp] theorem State.setDlc_cfg (s : State) (len : BitVec 4) : (s.setDlc len).cfg = s.cfg := rfl
@[simp] theorem State.setDlc_inputs (s : State) (len : BitVec 4) :
    (s.setDlc len).inputs = s.inputs := rfl
@[simp] theorem State.setDlc_cycle (s : State) (len : BitVec 4) :
    (s.setDlc len).cycle = s.cycle := rfl

/-! ## State.setTxBuf -/

@[simp] theorem State.setTxBuf_frameId (s : State) (m : Memory) :
    (s.setTxBuf m).frameId = s.frameId := rfl
@[simp] theorem State.setTxBuf_frameRtr (s : State) (m : Memory) :
    (s.setTxBuf m).frameRtr = s.frameRtr := rfl
@[simp] theorem State.setTxBuf_frameValid (s : State) (m : Memory) :
    (s.setTxBuf m).frameValid = s.frameValid := rfl
@[simp] theorem State.setTxBuf_frameDlc (s : State) (m : Memory) :
    (s.setTxBuf m).frameDlc = s.frameDlc := rfl
@[simp] theorem State.setTxBuf_txBuf (s : State) (m : Memory) : (s.setTxBuf m).txBuf = m := rfl
@[simp] theorem State.setTxBuf_rxId (s : State) (m : Memory) : (s.setTxBuf m).rxId = s.rxId := rfl
@[simp] theorem State.setTxBuf_rxRtr (s : State) (m : Memory) :
    (s.setTxBuf m).rxRtr = s.rxRtr := rfl
@[simp] theorem State.setTxBuf_rxDlc (s : State) (m : Memory) :
    (s.setTxBuf m).rxDlc = s.rxDlc := rfl
@[simp] theorem State.setTxBuf_rxBuf (s : State) (m : Memory) :
    (s.setTxBuf m).rxBuf = s.rxBuf := rfl
@[simp] theorem State.setTxBuf_result (s : State) (m : Memory) :
    (s.setTxBuf m).result = s.result := rfl
@[simp] theorem State.setTxBuf_lastCode (s : State) (m : Memory) :
    (s.setTxBuf m).lastCode = s.lastCode := rfl
@[simp] theorem State.setTxBuf_rspV (s : State) (m : Memory) : (s.setTxBuf m).rspV = s.rspV := rfl
@[simp] theorem State.setTxBuf_timeoutMs (s : State) (m : Memory) :
    (s.setTxBuf m).timeoutMs = s.timeoutMs := rfl
@[simp] theorem State.setTxBuf_silent (s : State) (m : Memory) :
    (s.setTxBuf m).silent = s.silent := rfl
@[simp] theorem State.setTxBuf_fsm (s : State) (m : Memory) : (s.setTxBuf m).fsm = s.fsm := rfl
@[simp] theorem State.setTxBuf_tickCnt (s : State) (m : Memory) :
    (s.setTxBuf m).tickCnt = s.tickCnt := rfl
@[simp] theorem State.setTxBuf_waitId (s : State) (m : Memory) :
    (s.setTxBuf m).waitId = s.waitId := rfl
@[simp] theorem State.setTxBuf_cfg (s : State) (m : Memory) : (s.setTxBuf m).cfg = s.cfg := rfl
@[simp] theorem State.setTxBuf_inputs (s : State) (m : Memory) :
    (s.setTxBuf m).inputs = s.inputs := rfl
@[simp] theorem State.setTxBuf_cycle (s : State) (m : Memory) :
    (s.setTxBuf m).cycle = s.cycle := rfl

/-! ## State.setResult -/

@[simp] theorem State.setResult_frameId (s : State) (v : DataWord) :
    (s.setResult v).frameId = s.frameId := rfl
@[simp] theorem State.setResult_frameRtr (s : State) (v : DataWord) :
    (s.setResult v).frameRtr = s.frameRtr := rfl
@[simp] theorem State.setResult_frameValid (s : State) (v : DataWord) :
    (s.setResult v).frameValid = s.frameValid := rfl
@[simp] theorem State.setResult_frameDlc (s : State) (v : DataWord) :
    (s.setResult v).frameDlc = s.frameDlc := rfl
@[simp] theorem State.setResult_txBuf (s : State) (v : DataWord) :
    (s.setResult v).txBuf = s.txBuf := rfl
@[simp] theorem State.setResult_rxId (s : State) (v : DataWord) :
    (s.setResult v).rxId = s.rxId := rfl
@[simp] theorem State.setResult_rxRtr (s : State) (v : DataWord) :
    (s.setResult v).rxRtr = s.rxRtr := rfl
@[simp] theorem State.setResult_rxDlc (s : State) (v : DataWord) :
    (s.setResult v).rxDlc = s.rxDlc := rfl
@[simp] theorem State.setResult_rxBuf (s : State) (v : DataWord) :
    (s.setResult v).rxBuf = s.rxBuf := rfl
@[simp] theorem State.setResult_result (s : State) (v : DataWord) :
    (s.setResult v).result = v := rfl
@[simp] theorem State.setResult_lastCode (s : State) (v : DataWord) :
    (s.setResult v).lastCode = s.lastCode := rfl
@[simp] theorem State.setResult_rspV (s : State) (v : DataWord) :
    (s.setResult v).rspV = s.rspV := rfl
@[simp] theorem State.setResult_timeoutMs (s : State) (v : DataWord) :
    (s.setResult v).timeoutMs = s.timeoutMs := rfl
@[simp] theorem State.setResult_silent (s : State) (v : DataWord) :
    (s.setResult v).silent = s.silent := rfl
@[simp] theorem State.setResult_fsm (s : State) (v : DataWord) : (s.setResult v).fsm = s.fsm := rfl
@[simp] theorem State.setResult_tickCnt (s : State) (v : DataWord) :
    (s.setResult v).tickCnt = s.tickCnt := rfl
@[simp] theorem State.setResult_waitId (s : State) (v : DataWord) :
    (s.setResult v).waitId = s.waitId := rfl
@[simp] theorem State.setResult_cfg (s : State) (v : DataWord) : (s.setResult v).cfg = s.cfg := rfl
@[simp] theorem State.setResult_inputs (s : State) (v : DataWord) :
    (s.setResult v).inputs = s.inputs := rfl
@[simp] theorem State.setResult_cycle (s : State) (v : DataWord) :
    (s.setResult v).cycle = s.cycle := rfl

/-! ## State.setTimeout -/

@[simp] theorem State.setTimeout_frameId (s : State) (v : BitVec 16) :
    (s.setTimeout v).frameId = s.frameId := rfl
@[simp] theorem State.setTimeout_frameRtr (s : State) (v : BitVec 16) :
    (s.setTimeout v).frameRtr = s.frameRtr := rfl
@[simp] theorem State.setTimeout_frameValid (s : State) (v : BitVec 16) :
    (s.setTimeout v).frameValid = s.frameValid := rfl
@[simp] theorem State.setTimeout_frameDlc (s : State) (v : BitVec 16) :
    (s.setTimeout v).frameDlc = s.frameDlc := rfl
@[simp] theorem State.setTimeout_txBuf (s : State) (v : BitVec 16) :
    (s.setTimeout v).txBuf = s.txBuf := rfl
@[simp] theorem State.setTimeout_rxId (s : State) (v : BitVec 16) :
    (s.setTimeout v).rxId = s.rxId := rfl
@[simp] theorem State.setTimeout_rxRtr (s : State) (v : BitVec 16) :
    (s.setTimeout v).rxRtr = s.rxRtr := rfl
@[simp] theorem State.setTimeout_rxDlc (s : State) (v : BitVec 16) :
    (s.setTimeout v).rxDlc = s.rxDlc := rfl
@[simp] theorem State.setTimeout_rxBuf (s : State) (v : BitVec 16) :
    (s.setTimeout v).rxBuf = s.rxBuf := rfl
@[simp] theorem State.setTimeout_result (s : State) (v : BitVec 16) :
    (s.setTimeout v).result = s.result := rfl
@[simp] theorem State.setTimeout_lastCode (s : State) (v : BitVec 16) :
    (s.setTimeout v).lastCode = s.lastCode := rfl
@[simp] theorem State.setTimeout_rspV (s : State) (v : BitVec 16) :
    (s.setTimeout v).rspV = s.rspV := rfl
@[simp] theorem State.setTimeout_timeoutMs (s : State) (v : BitVec 16) :
    (s.setTimeout v).timeoutMs = v := rfl
@[simp] theorem State.setTimeout_silent (s : State) (v : BitVec 16) :
    (s.setTimeout v).silent = s.silent := rfl
@[simp] theorem State.setTimeout_fsm (s : State) (v : BitVec 16) :
    (s.setTimeout v).fsm = s.fsm := rfl
@[simp] theorem State.setTimeout_tickCnt (s : State) (v : BitVec 16) :
    (s.setTimeout v).tickCnt = s.tickCnt := rfl
@[simp] theorem State.setTimeout_waitId (s : State) (v : BitVec 16) :
    (s.setTimeout v).waitId = s.waitId := rfl
@[simp] theorem State.setTimeout_cfg (s : State) (v : BitVec 16) :
    (s.setTimeout v).cfg = s.cfg := rfl
@[simp] theorem State.setTimeout_inputs (s : State) (v : BitVec 16) :
    (s.setTimeout v).inputs = s.inputs := rfl
@[simp] theorem State.setTimeout_cycle (s : State) (v : BitVec 16) :
    (s.setTimeout v).cycle = s.cycle := rfl

/-! ## State.setSilent -/

@[simp] theorem State.setSilent_frameId (s : State) (y : Bool) :
    (s.setSilent y).frameId = s.frameId := rfl
@[simp] theorem State.setSilent_frameRtr (s : State) (y : Bool) :
    (s.setSilent y).frameRtr = s.frameRtr := rfl
@[simp] theorem State.setSilent_frameValid (s : State) (y : Bool) :
    (s.setSilent y).frameValid = s.frameValid := rfl
@[simp] theorem State.setSilent_frameDlc (s : State) (y : Bool) :
    (s.setSilent y).frameDlc = s.frameDlc := rfl
@[simp] theorem State.setSilent_txBuf (s : State) (y : Bool) :
    (s.setSilent y).txBuf = s.txBuf := rfl
@[simp] theorem State.setSilent_rxId (s : State) (y : Bool) : (s.setSilent y).rxId = s.rxId := rfl
@[simp] theorem State.setSilent_rxRtr (s : State) (y : Bool) :
    (s.setSilent y).rxRtr = s.rxRtr := rfl
@[simp] theorem State.setSilent_rxDlc (s : State) (y : Bool) :
    (s.setSilent y).rxDlc = s.rxDlc := rfl
@[simp] theorem State.setSilent_rxBuf (s : State) (y : Bool) :
    (s.setSilent y).rxBuf = s.rxBuf := rfl
@[simp] theorem State.setSilent_result (s : State) (y : Bool) :
    (s.setSilent y).result = s.result := rfl
@[simp] theorem State.setSilent_lastCode (s : State) (y : Bool) :
    (s.setSilent y).lastCode = s.lastCode := rfl
@[simp] theorem State.setSilent_rspV (s : State) (y : Bool) : (s.setSilent y).rspV = s.rspV := rfl
@[simp] theorem State.setSilent_timeoutMs (s : State) (y : Bool) :
    (s.setSilent y).timeoutMs = s.timeoutMs := rfl
@[simp] theorem State.setSilent_silent (s : State) (y : Bool) : (s.setSilent y).silent = y := rfl
@[simp] theorem State.setSilent_fsm (s : State) (y : Bool) : (s.setSilent y).fsm = s.fsm := rfl
@[simp] theorem State.setSilent_tickCnt (s : State) (y : Bool) :
    (s.setSilent y).tickCnt = s.tickCnt := rfl
@[simp] theorem State.setSilent_waitId (s : State) (y : Bool) :
    (s.setSilent y).waitId = s.waitId := rfl
@[simp] theorem State.setSilent_cfg (s : State) (y : Bool) : (s.setSilent y).cfg = s.cfg := rfl
@[simp] theorem State.setSilent_inputs (s : State) (y : Bool) :
    (s.setSilent y).inputs = s.inputs := rfl
@[simp] theorem State.setSilent_cycle (s : State) (y : Bool) :
    (s.setSilent y).cycle = s.cycle := rfl

/-! ## State.clearReply -/

@[simp] theorem State.clearReply_frameId (s : State) : (s.clearReply).frameId = s.frameId := rfl
@[simp] theorem State.clearReply_frameRtr (s : State) : (s.clearReply).frameRtr = s.frameRtr := rfl
@[simp] theorem State.clearReply_frameValid (s : State) :
    (s.clearReply).frameValid = s.frameValid := rfl
@[simp] theorem State.clearReply_frameDlc (s : State) : (s.clearReply).frameDlc = s.frameDlc := rfl
@[simp] theorem State.clearReply_txBuf (s : State) : (s.clearReply).txBuf = s.txBuf := rfl
@[simp] theorem State.clearReply_rxId (s : State) : (s.clearReply).rxId = s.rxId := rfl
@[simp] theorem State.clearReply_rxRtr (s : State) : (s.clearReply).rxRtr = s.rxRtr := rfl
@[simp] theorem State.clearReply_rxDlc (s : State) : (s.clearReply).rxDlc = 0 := rfl
@[simp] theorem State.clearReply_rxBuf (s : State) : (s.clearReply).rxBuf = Memory.zeroed := rfl
@[simp] theorem State.clearReply_result (s : State) : (s.clearReply).result = s.result := rfl
@[simp] theorem State.clearReply_lastCode (s : State) : (s.clearReply).lastCode = s.lastCode := rfl
@[simp] theorem State.clearReply_rspV (s : State) : (s.clearReply).rspV = s.rspV := rfl
@[simp] theorem State.clearReply_timeoutMs (s : State) :
    (s.clearReply).timeoutMs = s.timeoutMs := rfl
@[simp] theorem State.clearReply_silent (s : State) : (s.clearReply).silent = s.silent := rfl
@[simp] theorem State.clearReply_fsm (s : State) : (s.clearReply).fsm = s.fsm := rfl
@[simp] theorem State.clearReply_tickCnt (s : State) : (s.clearReply).tickCnt = s.tickCnt := rfl
@[simp] theorem State.clearReply_waitId (s : State) : (s.clearReply).waitId = s.waitId := rfl
@[simp] theorem State.clearReply_cfg (s : State) : (s.clearReply).cfg = s.cfg := rfl
@[simp] theorem State.clearReply_inputs (s : State) : (s.clearReply).inputs = s.inputs := rfl
@[simp] theorem State.clearReply_cycle (s : State) : (s.clearReply).cycle = s.cycle := rfl

/-! ## State.startWait -/

@[simp] theorem State.startWait_frameId (s : State) (id : CanId) (f : Fsm) :
    (s.startWait id f).frameId = s.frameId := rfl
@[simp] theorem State.startWait_frameRtr (s : State) (id : CanId) (f : Fsm) :
    (s.startWait id f).frameRtr = s.frameRtr := rfl
@[simp] theorem State.startWait_frameValid (s : State) (id : CanId) (f : Fsm) :
    (s.startWait id f).frameValid = s.frameValid := rfl
@[simp] theorem State.startWait_frameDlc (s : State) (id : CanId) (f : Fsm) :
    (s.startWait id f).frameDlc = s.frameDlc := rfl
@[simp] theorem State.startWait_txBuf (s : State) (id : CanId) (f : Fsm) :
    (s.startWait id f).txBuf = s.txBuf := rfl
@[simp] theorem State.startWait_rxId (s : State) (id : CanId) (f : Fsm) :
    (s.startWait id f).rxId = s.rxId := rfl
@[simp] theorem State.startWait_rxRtr (s : State) (id : CanId) (f : Fsm) :
    (s.startWait id f).rxRtr = s.rxRtr := rfl
@[simp] theorem State.startWait_rxDlc (s : State) (id : CanId) (f : Fsm) :
    (s.startWait id f).rxDlc = s.rxDlc := rfl
@[simp] theorem State.startWait_rxBuf (s : State) (id : CanId) (f : Fsm) :
    (s.startWait id f).rxBuf = s.rxBuf := rfl
@[simp] theorem State.startWait_result (s : State) (id : CanId) (f : Fsm) :
    (s.startWait id f).result = s.result := rfl
@[simp] theorem State.startWait_lastCode (s : State) (id : CanId) (f : Fsm) :
    (s.startWait id f).lastCode = s.lastCode := rfl
@[simp] theorem State.startWait_rspV (s : State) (id : CanId) (f : Fsm) :
    (s.startWait id f).rspV = s.rspV := rfl
@[simp] theorem State.startWait_timeoutMs (s : State) (id : CanId) (f : Fsm) :
    (s.startWait id f).timeoutMs = s.timeoutMs := rfl
@[simp] theorem State.startWait_silent (s : State) (id : CanId) (f : Fsm) :
    (s.startWait id f).silent = s.silent := rfl
@[simp] theorem State.startWait_fsm (s : State) (id : CanId) (f : Fsm) :
    (s.startWait id f).fsm = f := rfl
@[simp] theorem State.startWait_tickCnt (s : State) (id : CanId) (f : Fsm) :
    (s.startWait id f).tickCnt = s.tickCnt := rfl
@[simp] theorem State.startWait_waitId (s : State) (id : CanId) (f : Fsm) :
    (s.startWait id f).waitId = id := rfl
@[simp] theorem State.startWait_cfg (s : State) (id : CanId) (f : Fsm) :
    (s.startWait id f).cfg = s.cfg := rfl
@[simp] theorem State.startWait_inputs (s : State) (id : CanId) (f : Fsm) :
    (s.startWait id f).inputs = s.inputs := rfl
@[simp] theorem State.startWait_cycle (s : State) (id : CanId) (f : Fsm) :
    (s.startWait id f).cycle = s.cycle := rfl

/-! ## State.startReplyWait -/

@[simp] theorem State.startReplyWait_frameId (s : State) :
    (s.startReplyWait).frameId = s.frameId := rfl
@[simp] theorem State.startReplyWait_frameRtr (s : State) :
    (s.startReplyWait).frameRtr = s.frameRtr := rfl
@[simp] theorem State.startReplyWait_frameValid (s : State) :
    (s.startReplyWait).frameValid = s.frameValid := rfl
@[simp] theorem State.startReplyWait_frameDlc (s : State) :
    (s.startReplyWait).frameDlc = s.frameDlc := rfl
@[simp] theorem State.startReplyWait_txBuf (s : State) : (s.startReplyWait).txBuf = s.txBuf := rfl
@[simp] theorem State.startReplyWait_rxId (s : State) : (s.startReplyWait).rxId = s.rxId := rfl
@[simp] theorem State.startReplyWait_rxRtr (s : State) : (s.startReplyWait).rxRtr = s.rxRtr := rfl
@[simp] theorem State.startReplyWait_rxDlc (s : State) : (s.startReplyWait).rxDlc = s.rxDlc := rfl
@[simp] theorem State.startReplyWait_rxBuf (s : State) : (s.startReplyWait).rxBuf = s.rxBuf := rfl
@[simp] theorem State.startReplyWait_result (s : State) :
    (s.startReplyWait).result = s.result := rfl
@[simp] theorem State.startReplyWait_lastCode (s : State) :
    (s.startReplyWait).lastCode = s.lastCode := rfl
@[simp] theorem State.startReplyWait_rspV (s : State) : (s.startReplyWait).rspV = s.rspV := rfl
@[simp] theorem State.startReplyWait_timeoutMs (s : State) :
    (s.startReplyWait).timeoutMs = s.timeoutMs := rfl
@[simp] theorem State.startReplyWait_silent (s : State) :
    (s.startReplyWait).silent = s.silent := rfl
@[simp] theorem State.startReplyWait_fsm (s : State) : (s.startReplyWait).fsm = .waitRsp := rfl
@[simp] theorem State.startReplyWait_tickCnt (s : State) : (s.startReplyWait).tickCnt = 0 := rfl
@[simp] theorem State.startReplyWait_waitId (s : State) :
    (s.startReplyWait).waitId = s.waitId := rfl
@[simp] theorem State.startReplyWait_cfg (s : State) : (s.startReplyWait).cfg = s.cfg := rfl
@[simp] theorem State.startReplyWait_inputs (s : State) :
    (s.startReplyWait).inputs = s.inputs := rfl
@[simp] theorem State.startReplyWait_cycle (s : State) : (s.startReplyWait).cycle = s.cycle := rfl

/-! ## State.countTick -/

@[simp] theorem State.countTick_frameId (s : State) : (s.countTick).frameId = s.frameId := rfl
@[simp] theorem State.countTick_frameRtr (s : State) : (s.countTick).frameRtr = s.frameRtr := rfl
@[simp] theorem State.countTick_frameValid (s : State) :
    (s.countTick).frameValid = s.frameValid := rfl
@[simp] theorem State.countTick_frameDlc (s : State) : (s.countTick).frameDlc = s.frameDlc := rfl
@[simp] theorem State.countTick_txBuf (s : State) : (s.countTick).txBuf = s.txBuf := rfl
@[simp] theorem State.countTick_rxId (s : State) : (s.countTick).rxId = s.rxId := rfl
@[simp] theorem State.countTick_rxRtr (s : State) : (s.countTick).rxRtr = s.rxRtr := rfl
@[simp] theorem State.countTick_rxDlc (s : State) : (s.countTick).rxDlc = s.rxDlc := rfl
@[simp] theorem State.countTick_rxBuf (s : State) : (s.countTick).rxBuf = s.rxBuf := rfl
@[simp] theorem State.countTick_result (s : State) : (s.countTick).result = s.result := rfl
@[simp] theorem State.countTick_lastCode (s : State) : (s.countTick).lastCode = s.lastCode := rfl
@[simp] theorem State.countTick_rspV (s : State) : (s.countTick).rspV = s.rspV := rfl
@[simp] theorem State.countTick_timeoutMs (s : State) : (s.countTick).timeoutMs = s.timeoutMs := rfl
@[simp] theorem State.countTick_silent (s : State) : (s.countTick).silent = s.silent := rfl
@[simp] theorem State.countTick_fsm (s : State) : (s.countTick).fsm = s.fsm := rfl
@[simp] theorem State.countTick_tickCnt (s : State) : (s.countTick).tickCnt = s.tickCnt + 1 := rfl
@[simp] theorem State.countTick_waitId (s : State) : (s.countTick).waitId = s.waitId := rfl
@[simp] theorem State.countTick_cfg (s : State) : (s.countTick).cfg = s.cfg := rfl
@[simp] theorem State.countTick_inputs (s : State) : (s.countTick).inputs = s.inputs := rfl
@[simp] theorem State.countTick_cycle (s : State) : (s.countTick).cycle = s.cycle := rfl

/-! ## State.capture -/

@[simp] theorem State.capture_frameId (s : State) (i : Inputs) :
    (s.capture i).frameId = s.frameId := rfl
@[simp] theorem State.capture_frameRtr (s : State) (i : Inputs) :
    (s.capture i).frameRtr = s.frameRtr := rfl
@[simp] theorem State.capture_frameValid (s : State) (i : Inputs) :
    (s.capture i).frameValid = s.frameValid := rfl
@[simp] theorem State.capture_frameDlc (s : State) (i : Inputs) :
    (s.capture i).frameDlc = s.frameDlc := rfl
@[simp] theorem State.capture_txBuf (s : State) (i : Inputs) : (s.capture i).txBuf = s.txBuf := rfl
@[simp] theorem State.capture_rxId (s : State) (i : Inputs) : (s.capture i).rxId = i.rxId := rfl
@[simp] theorem State.capture_rxRtr (s : State) (i : Inputs) : (s.capture i).rxRtr = i.rxRtr := rfl
@[simp] theorem State.capture_rxDlc (s : State) (i : Inputs) :
    (s.capture i).rxDlc = BitVec.ofNat 4 (cappedDlc i.rxDlc) := rfl
@[simp] theorem State.capture_rxBuf (s : State) (i : Inputs) :
    (s.capture i).rxBuf = Memory.ofPayload (cappedDlc i.rxDlc) i.rxData := rfl
@[simp] theorem State.capture_result (s : State) (i : Inputs) :
    (s.capture i).result = s.result := rfl
@[simp] theorem State.capture_lastCode (s : State) (i : Inputs) :
    (s.capture i).lastCode = s.lastCode := rfl
@[simp] theorem State.capture_rspV (s : State) (i : Inputs) : (s.capture i).rspV = s.rspV := rfl
@[simp] theorem State.capture_timeoutMs (s : State) (i : Inputs) :
    (s.capture i).timeoutMs = s.timeoutMs := rfl
@[simp] theorem State.capture_silent (s : State) (i : Inputs) :
    (s.capture i).silent = s.silent := rfl
@[simp] theorem State.capture_fsm (s : State) (i : Inputs) : (s.capture i).fsm = s.fsm := rfl
@[simp] theorem State.capture_tickCnt (s : State) (i : Inputs) :
    (s.capture i).tickCnt = s.tickCnt := rfl
@[simp] theorem State.capture_waitId (s : State) (i : Inputs) :
    (s.capture i).waitId = s.waitId := rfl
@[simp] theorem State.capture_cfg (s : State) (i : Inputs) : (s.capture i).cfg = s.cfg := rfl
@[simp] theorem State.capture_inputs (s : State) (i : Inputs) :
    (s.capture i).inputs = s.inputs := rfl
@[simp] theorem State.capture_cycle (s : State) (i : Inputs) : (s.capture i).cycle = s.cycle := rfl

/-! ## Conditional updates -/

/-- A field of a conditional update is the conditional field. -/
theorem State.ite_field {α : Type} (f : State → α) (c : Prop) [Decidable c] (s t : State) :
    f (if c then s else t) = if c then f s else f t := apply_ite f c s t

end Sys2Proof.Machine
end

