-- ==== Sys2Proof/Laws/Ops.lean ====
section
/-! SUPPORT. For each shared operation, one lemma that says once everything it can do. -/

namespace Sys2Proof.Machine

/-! ## Outcomes -/

@[simp] theorem next_inj (s t : State) :
    (Host.Outcome.next s : Host.Outcome State Fault Refusal) = .next t ↔ s = t :=
  ⟨fun h => by cases h; rfl, fun h => by rw [h]⟩

@[simp] theorem succeed_eq (s : State) : succeed s = .next (s.complete .ok) := rfl

@[simp] theorem raise_eq (c : Code) (s : State) : raise c s = .next (s.complete c) := rfl

/-! ## Fields of the buffers -/

theorem fieldFits_iff (off n : Nat) : fieldFits off n = true ↔ off + n ≤ 8 :=
  decide_eq_true_iff

/-- A store inside the buffer completes OK with the field written. -/
theorem storeField_eq (off n v : Nat) (s : State) (h : off + n ≤ 8) :
    storeField off n v s = .next ((s.setTxBuf (s.txBuf.writeLE off n v)).complete .ok) := by
  simp [storeField, Memory.store_eq, h]

/-- PACK of a plain field: the field written, or ERR_OFFSET. -/
theorem packField_eq (off n v : Nat) (s : State) :
    packField off n v s =
      if off + n ≤ 8 then .next ((s.setTxBuf (s.txBuf.writeLE off n v)).complete .ok)
      else .next (s.complete .errOffset) := by
  unfold packField
  by_cases h : off + n ≤ 8
  · rw [if_pos ((fieldFits_iff _ _).2 h), if_pos h, storeField_eq off n v s h]
  · rw [if_neg (fun hf => h ((fieldFits_iff _ _).1 hf)), if_neg h, raise_eq]

/-- PACK of a scaled feed-forward: ERR_OFFSET, else ERR_RANGE, else the field written. -/
theorem packScaled_eq (off n : Nat) (x : DataWord) (s : State) :
    packScaled off n x s =
      if off + n ≤ 8 then
        match ffscale s.cfg.ffMul x with
        | none => .next (s.complete .errRange)
        | some v => .next ((s.setTxBuf (s.txBuf.writeLE off n v.toNat)).complete .ok)
      else .next (s.complete .errOffset) := by
  unfold packScaled
  by_cases h : off + n ≤ 8
  · rw [if_pos ((fieldFits_iff _ _).2 h), if_pos h]
    cases ffscale s.cfg.ffMul x with
    | none => rfl
    | some v => exact storeField_eq off n v.toNat s h
  · rw [if_neg (fun hf => h ((fieldFits_iff _ _).1 hf)), if_neg h, raise_eq]

/-- UNPACK: RESULT from the integer the field reads as, or ERR_OFFSET. -/
theorem unpackField_eq (off n : Nat) (b : Buf) (value : Nat → DataWord) (s : State) :
    unpackField off n b value s =
      if off + n ≤ 8 then
        .next ((s.setResult (value ((s.buffer b).readLE off n))).complete .ok)
      else .next (s.complete .errOffset) := by
  unfold unpackField
  by_cases h : off + n ≤ 8
  · rw [if_pos ((fieldFits_iff _ _).2 h), if_pos h, Memory.load_eq, if_pos h]
    rfl
  · rw [if_neg (fun hf => h ((fieldFits_iff _ _).1 hf)), if_neg h, raise_eq]

/-! ## The meanings, by the operation each is made of -/

/-- ID_ENC: rejected by axis, rejected by command id, or the header written. -/
theorem execIdEnc_cases (q : Bool) (axis cid : Nat) (s t : State)
    (h : execIdEnc q axis cid s = .next t) :
    (63 < axis ∧ t = s.complete .errAxis) ∨ (axis ≤ 63 ∧ 31 < cid ∧ t = s.complete .errCmd) ∨
      (axis ≤ 63 ∧ cid ≤ 31 ∧ t = (s.setHeader (composeId axis cid) q).complete .ok) := by
  unfold execIdEnc at h
  split at h
  · exact .inl ⟨by omega, by simpa using h.symm⟩
  · split at h
    · exact .inr (.inl ⟨by omega, by omega, by simpa using h.symm⟩)
    · exact .inr (.inr ⟨by omega, by omega, by simpa using h.symm⟩)

/-- ID_DEC: rejected, or RESULT written from some identifier. -/
theorem execIdDec_cases (src : IdSrc) (s t : State) (h : execIdDec src s = .next t) :
    t = s.complete .errId ∨ ∃ id, t = (s.setResult (decomposeId id)).complete .ok := by
  unfold execIdDec at h
  split at h
  · split at h
    · exact .inl (by simpa using h.symm)
    · exact .inr ⟨_, by simpa using h.symm⟩
  · exact .inr ⟨_, by simpa using h.symm⟩
  · exact .inr ⟨_, by simpa using h.symm⟩

/-- SET_DLC: rejected, or the length written. -/
theorem execSetDlc_cases (len : Nat) (s t : State) (h : execSetDlc len s = .next t) :
    (8 < len ∧ t = s.complete .errDlc) ∨
      (len ≤ 8 ∧ t = (s.setDlc (BitVec.ofNat 4 len)).complete .ok) := by
  unfold execSetDlc at h
  split at h
  · exact .inl ⟨by omega, by simpa using h.symm⟩
  · exact .inr ⟨by omega, by simpa using h.symm⟩

/-- SET_TIMEOUT: rejected, or the timeout written. -/
theorem execSetTimeout_cases (ms : DataWord) (s t : State) (h : execSetTimeout ms s = .next t) :
    (ms.extractLsb' 16 16 ≠ 0 ∧ t = s.complete .errRange) ∨
      (ms.extractLsb' 16 16 = 0 ∧ t = (s.setTimeout (ms.extractLsb' 0 16)).complete .ok) := by
  unfold execSetTimeout at h
  split at h
  next hm => exact .inl ⟨hm, by simpa using h.symm⟩
  next hm => exact .inr ⟨by simpa using hm, by simpa using h.symm⟩

/-- XCHG at its acceptance: rejected without a frame, or on its way with the reply buffer zeroed for
a query. -/
theorem execXchg_cases (s t : State) (h : execXchg s = .next t) :
    (s.frameValid = false ∧ t = s.complete .errNoFrame) ∨
      (s.frameValid = true ∧ s.frameRtr = true ∧ t = s.clearReply.startWait s.frameId .tx) ∨
      (s.frameValid = true ∧ s.frameRtr = false ∧ t = s.startWait s.frameId .tx) := by
  unfold execXchg at h
  cases hv : s.frameValid <;> cases hr : s.frameRtr <;> simp_all

/-- HB_WAIT at its acceptance: rejected, or waiting with the reply buffer zeroed. -/
theorem execHbWait_cases (axis : Nat) (s t : State) (h : execHbWait axis s = .next t) :
    (63 < axis ∧ t = s.complete .errAxis) ∨
      (axis ≤ 63 ∧ t = s.clearReply.startWait (heartbeatId axis) .waitHb) := by
  unfold execHbWait at h
  split at h
  · exact .inl ⟨by omega, by simpa using h.symm⟩
  · exact .inr ⟨by omega, by simpa using h.symm⟩

/-! ## The edges of the engine -/

theorem matchingFrame_iff (i : Inputs) (s : State) :
    matchingFrame i s = true ↔ i.rxValid = true ∧ i.rxId = s.waitId := by
  simp [matchingFrame]

/-- An edge in TX: still offering, rejected, sent, timed out at once, or waiting for the reply. -/
theorem txEdge_cases (i : Inputs) (s : State) :
    (i.txReady = false ∧ txEdge i s = s) ∨
      (i.txReady = true ∧ i.txOk = false ∧ txEdge i s = s.complete .errSend) ∨
      (i.txReady = true ∧ i.txOk = true ∧ s.frameRtr = false ∧ txEdge i s = s.complete .ok) ∨
      (i.txReady = true ∧ i.txOk = true ∧ s.frameRtr = true ∧ s.timeoutMs = 0 ∧
        txEdge i s = s.complete (timeoutCode s)) ∨
      (i.txReady = true ∧ i.txOk = true ∧ s.frameRtr = true ∧ s.timeoutMs ≠ 0 ∧
        txEdge i s = s.startReplyWait) := by
  unfold txEdge
  cases i.txReady <;> cases i.txOk <;> cases s.frameRtr <;>
    by_cases h : s.timeoutMs = 0 <;> simp only [h] <;> simp
  exact h

/-- An edge in WAIT_RSP: a match, nothing, a tick counted, or the last tick. -/
theorem waitRspEdge_cases (i : Inputs) (s : State) :
    (matchingFrame i s = true ∧ waitRspEdge i s = (s.capture i).complete .ok) ∨
      (matchingFrame i s = false ∧ i.msTick = false ∧ waitRspEdge i s = s) ∨
      (matchingFrame i s = false ∧ i.msTick = true ∧ s.tickCnt.toNat + 1 < s.timeoutMs.toNat ∧
        waitRspEdge i s = s.countTick) ∨
      (matchingFrame i s = false ∧ i.msTick = true ∧ s.timeoutMs.toNat ≤ s.tickCnt.toNat + 1 ∧
        waitRspEdge i s = s.complete (timeoutCode s)) := by
  unfold waitRspEdge tickEdge
  by_cases h : s.timeoutMs.toNat ≤ s.tickCnt.toNat + 1
  · cases matchingFrame i s <;> cases i.msTick <;> simp [h]
  · cases matchingFrame i s <;> cases i.msTick <;> simp [h]
    omega

/-- An edge in WAIT_HB: a match, or nothing. -/
theorem waitHbEdge_cases (i : Inputs) (s : State) :
    (matchingFrame i s = true ∧ waitHbEdge i s = (s.capture i).complete .ok) ∨
      (matchingFrame i s = false ∧ waitHbEdge i s = s) := by
  unfold waitHbEdge
  cases matchingFrame i s <;> simp

/-! ## The step -/

@[simp] theorem State.now_cons (s : State) (i : Inputs) (rest : List Inputs)
    (h : s.inputs = i :: rest) : s.now = i := by
  simp [State.now, h]

/-- The step, by `rst`, FSM and what the host offers. -/
theorem step_cases (s t : State) (h : step s = .next t) :
    (s.now.rst = true ∧ t = s.beginCycle.resetRegisters) ∨
      (s.now.rst = false ∧ s.fsm = .idle ∧ s.now.cmdValid = false ∧ t = s.beginCycle) ∨
      (s.now.rst = false ∧ s.fsm = .idle ∧ s.now.cmdValid = true ∧
        (∃ why, decode s.now.cmd s.now.data = .illegal why) ∧
        t = s.beginCycle.complete .illegal) ∨
      (s.now.rst = false ∧ s.fsm = .idle ∧ s.now.cmdValid = true ∧
        ∃ i, decode s.now.cmd s.now.data = .op i ∧ exec i s.beginCycle = .next t) ∨
      (s.now.rst = false ∧ s.fsm = .tx ∧ t = txEdge s.now s.beginCycle) ∨
      (s.now.rst = false ∧ s.fsm = .waitRsp ∧ t = waitRspEdge s.now s.beginCycle) ∨
      (s.now.rst = false ∧ s.fsm = .waitHb ∧ t = waitHbEdge s.now s.beginCycle) := by
  unfold step edge at h
  cases hr : s.now.rst with
  | true => exact .inl ⟨rfl, by simpa [hr] using h.symm⟩
  | false =>
    cases hf : s.fsm with
    | idle =>
      cases hc : s.now.cmdValid with
      | false => simp [hr, hf, idleEdge, hc] at h; simp [h]
      | true =>
        cases hd : decode s.now.cmd s.now.data with
        | illegal why => simp [hr, hf, idleEdge, hc, hd] at h; simp [h]
        | op i => simp [hr, hf, idleEdge, hc, hd] at h; simp [h]
    | tx => simp [hr, hf] at h; simp [h]
    | waitRsp => simp [hr, hf] at h; simp [h]
    | waitHb => simp [hr, hf] at h; simp [h]

end Sys2Proof.Machine
end

