-- ==== Sys2Proof/Laws/PerInstr.lean ====
section
/-! SUPPORT. Statements about every instruction as syntax, one lemma per constructor. The family
`EncodingMatchesItsRow`: the command word of an instruction matches the row of opcode_table.json
that stands for its opcode. -/

namespace Sys2Proof.Laws.EncodingMatchesItsRow

open Sys2Proof Sys2Proof.Safety

/-- The instruction's command word matches its row of the opcode table. -/
def Statement (i : Instr) : Prop :=
  ∃ row ∈ opcodeTable, row.opcode = i.opcode ∧ (encode i).1 &&& row.mask = row.pattern

/-- Only the low three bits of an offset reach the word, so eight cases decide. -/
theorem packFields_mem (off : Nat) : ∃ o : BitVec 3, packFields off = o ++ 0#8 := ⟨_, rfl⟩

theorem unpackFields_mem (off : Nat) (b : Buf) :
    ∃ (o : BitVec 3) (c : Bool), unpackFields off b = o ++ BitVec.ofBool c ++ 0#7 := ⟨_, _, rfl⟩

theorem pack_word (op : BitVec 5) (off : Nat) (mask : BitVec 16) (pat : BitVec 16)
    (h : ∀ o : BitVec 3, (op ++ (o ++ 0#8) : BitVec 16) &&& mask = pat) :
    (op ++ packFields off : BitVec 16) &&& mask = pat := by
  obtain ⟨o, ho⟩ := packFields_mem off
  rw [ho]; exact h o

theorem unpack_word (op : BitVec 5) (off : Nat) (b : Buf) (mask : BitVec 16) (pat : BitVec 16)
    (h : ∀ (o : BitVec 3) (c : Bool),
      (op ++ (o ++ BitVec.ofBool c ++ 0#7) : BitVec 16) &&& mask = pat) :
    (op ++ unpackFields off b : BitVec 16) &&& mask = pat := by
  obtain ⟨o, c, ho⟩ := unpackFields_mem off b
  rw [ho]; exact h o c

theorem nop : Statement .nop := ⟨⟨.nop, 0xFFFF, 0x0000⟩, by decide, rfl, by decide⟩

theorem idEnc (query : Bool) (axis cid : Nat) : Statement (.idEnc query axis cid) :=
  ⟨⟨.idEnc, 0xFFFE, 0x0800⟩, by decide, rfl, by
    show (Opcode.idEnc.bits ++ (0#10 ++ BitVec.ofBool query) : BitVec 16) &&& 0xFFFE = 0x0800
    revert query; decide⟩

theorem idDec (src : IdSrc) : Statement (.idDec src) :=
  ⟨⟨.idDec, 0xFFFC, 0x1000⟩, by decide, rfl, by
    show (Opcode.idDec.bits ++ (0#9 ++ src.bits) : BitVec 16) &&& 0xFFFC = 0x1000
    generalize src.bits = b
    revert b; decide⟩

theorem bufClr : Statement .bufClr := ⟨⟨.bufClr, 0xFFFF, 0x1800⟩, by decide, rfl, by decide⟩

theorem setDlc (len : Nat) : Statement (.setDlc len) :=
  ⟨⟨.setDlc, 0xFFF0, 0x2000⟩, by decide, rfl, by
    show (Opcode.setDlc.bits ++ (0#7 ++ BitVec.ofNat 4 len) : BitVec 16) &&& 0xFFF0 = 0x2000
    generalize BitVec.ofNat 4 len = l
    revert l; decide⟩

theorem setTimeout (ms : DataWord) : Statement (.setTimeout ms) :=
  ⟨⟨.setTimeout, 0xFFFF, 0x2800⟩, by decide, rfl, by
    show (Opcode.setTimeout.bits ++ 0#11 : BitVec 16) &&& 0xFFFF = 0x2800
    decide⟩

theorem setPolicy (silent : Bool) : Statement (.setPolicy silent) :=
  ⟨⟨.setPolicy, 0xFFFE, 0x3000⟩, by decide, rfl, by
    show (Opcode.setPolicy.bits ++ (0#10 ++ BitVec.ofBool silent) : BitVec 16) &&& 0xFFFE = 0x3000
    revert silent; decide⟩

theorem packU8 (off : Nat) (v : DataWord) : Statement (.packU8 off v) :=
  ⟨⟨.packU8, 0xF8FF, 0x4000⟩, by decide, rfl, pack_word Opcode.packU8.bits off 0xF8FF 0x4000 (by decide)⟩

theorem packI16 (off : Nat) (v : DataWord) : Statement (.packI16 off v) :=
  ⟨⟨.packI16, 0xF8FF, 0x4800⟩, by decide, rfl, pack_word Opcode.packI16.bits off 0xF8FF 0x4800 (by decide)⟩

theorem packI32 (off : Nat) (v : DataWord) : Statement (.packI32 off v) :=
  ⟨⟨.packI32, 0xF8FF, 0x5000⟩, by decide, rfl, pack_word Opcode.packI32.bits off 0xF8FF 0x5000 (by decide)⟩

theorem packU32 (off : Nat) (v : DataWord) : Statement (.packU32 off v) :=
  ⟨⟨.packU32, 0xF8FF, 0x5800⟩, by decide, rfl, pack_word Opcode.packU32.bits off 0xF8FF 0x5800 (by decide)⟩

theorem packF32 (off : Nat) (v : DataWord) : Statement (.packF32 off v) :=
  ⟨⟨.packF32, 0xF8FF, 0x6000⟩, by decide, rfl, pack_word Opcode.packF32.bits off 0xF8FF 0x6000 (by decide)⟩

theorem packFf16 (off : Nat) (v : DataWord) : Statement (.packFf16 off v) :=
  ⟨⟨.packFf16, 0xF8FF, 0x6800⟩, by decide, rfl, pack_word Opcode.packFf16.bits off 0xF8FF 0x6800 (by decide)⟩

theorem packFf8 (off : Nat) (v : DataWord) : Statement (.packFf8 off v) :=
  ⟨⟨.packFf8, 0xF8FF, 0x7000⟩, by decide, rfl, pack_word Opcode.packFf8.bits off 0xF8FF 0x7000 (by decide)⟩

theorem unpackU8 (off : Nat) (b : Buf) : Statement (.unpackU8 off b) :=
  ⟨⟨.unpackU8, 0xF87F, 0x8000⟩, by decide, rfl,
    unpack_word Opcode.unpackU8.bits off b 0xF87F 0x8000 (by decide)⟩

theorem unpackI16 (off : Nat) (b : Buf) : Statement (.unpackI16 off b) :=
  ⟨⟨.unpackI16, 0xF87F, 0x8800⟩, by decide, rfl,
    unpack_word Opcode.unpackI16.bits off b 0xF87F 0x8800 (by decide)⟩

theorem unpackI32 (off : Nat) (b : Buf) : Statement (.unpackI32 off b) :=
  ⟨⟨.unpackI32, 0xF87F, 0x9000⟩, by decide, rfl,
    unpack_word Opcode.unpackI32.bits off b 0xF87F 0x9000 (by decide)⟩

theorem unpackU32 (off : Nat) (b : Buf) : Statement (.unpackU32 off b) :=
  ⟨⟨.unpackU32, 0xF87F, 0x9800⟩, by decide, rfl,
    unpack_word Opcode.unpackU32.bits off b 0xF87F 0x9800 (by decide)⟩

theorem unpackF32 (off : Nat) (b : Buf) : Statement (.unpackF32 off b) :=
  ⟨⟨.unpackF32, 0xF87F, 0xA000⟩, by decide, rfl,
    unpack_word Opcode.unpackF32.bits off b 0xF87F 0xA000 (by decide)⟩

theorem unpackFf16 (off : Nat) (b : Buf) : Statement (.unpackFf16 off b) :=
  ⟨⟨.unpackFf16, 0xF87F, 0xA800⟩, by decide, rfl,
    unpack_word Opcode.unpackFf16.bits off b 0xF87F 0xA800 (by decide)⟩

theorem xchg : Statement .xchg := ⟨⟨.xchg, 0xFFFF, 0xC000⟩, by decide, rfl, by decide⟩

theorem hbWait (axis : Nat) : Statement (.hbWait axis) :=
  ⟨⟨.hbWait, 0xFFFF, 0xC800⟩, by decide, rfl, by
    show (Opcode.hbWait.bits ++ 0#11 : BitVec 16) &&& 0xFFFF = 0xC800
    decide⟩

end Sys2Proof.Laws.EncodingMatchesItsRow
end

