-- ==== Sys2Proof/Tests/Slice0.lean ====
section
/-! SUPPORT. The model's own tests: ill-formed terms, words written out from the encoding tables,
single steps with the results of 95_test_vectors.md, and for every obligation with hypotheses a state
and operands that meet them. -/

namespace Sys2Proof.Tests

open Sys2Proof Sys2Proof.Machine Sys2Proof.Safety

/-! ## Helpers -/

/-- A field of the next state, none where the machine stops. -/
def fieldOfNext {α : Type} (f : State → α) : Host.Outcome State Fault Refusal → Option α
  | .next t => some (f t)
  | .fault _ => none
  | .refused _ => none

/-- One step that accepts the operation (`cmd`, `data`) in the state `s`. -/
def accept (s : State) (cmd : CmdWord) (data : DataWord) : Host.Outcome State Fault Refusal :=
  step (s.offer cmd data)

/-- The reset state with one cycle of inputs. -/
def resetWith (i : Inputs) : State := { State.reset with inputs := [i] }

/-- A buffer with the given eight bytes. -/
def bytes (l : List Byte) : Memory :=
  (l.zipIdx).foldl (fun m c => Memory.writeByte m c.2 c.1) []

/-- The eight bytes of a buffer. -/
def bytesOf (m : Memory) : List Byte := (List.range 8).map (Memory.readByte m)

/-- 95_test_vectors.md section 2.4: the start state of the UNPACK vectors. -/
def unpackStart : State :=
  { State.reset with
    rxBuf := bytes [0xFE, 0xFF, 0xFF, 0xFF, 0x00, 0x80, 0xC4, 0x09]
    rxDlc := 8
    txBuf := bytes [0x11, 0x22, 0x33, 0x44, 0x55, 0x66, 0x77, 0x88] }

/-- A query for ID 0x049 (95_test_vectors.md section 2.6, setup Q). -/
def query : State := { State.reset with frameId := 0x049, frameRtr := true, frameValid := true }

/-- A command for ID 0x062 (95_test_vectors.md X8). -/
def command : State := { State.reset with frameId := 0x062, frameValid := true }

/-- A query in WAIT_RSP. -/
def waiting : State := { query with fsm := .waitRsp, waitId := 0x049 }

/-- A query in TX with timeout 0. -/
def txZero : State := { query with fsm := .tx, waitId := 0x049, timeoutMs := 0 }

/-- A query in WAIT_RSP with one tick to go. -/
def waitLast : State := { waiting with timeoutMs := 1 }

/-- A heartbeat wait for axis 1. -/
def heartbeatWait : State := { State.reset with fsm := .waitHb, waitId := 0x021 }

/-- A received frame. -/
def frameIn (id : CanId) (rtr : Bool) (dlc : BitVec 4) (data : BitVec 64) : Inputs :=
  { rxValid := true, rxId := id, rxRtr := rtr, rxDlc := dlc, rxData := data }

/-! ## Ill-formed terms are refused -/

theorem test_offset_8_refused : (Instr.packU8 8 0).wellFormed = false := by decide
theorem test_offset_7_accepted : (Instr.packU8 7 0).wellFormed = true := by decide
theorem test_unpack_offset_8_refused : (Instr.unpackU8 8 .tx).wellFormed = false := by decide
theorem test_length_16_refused : (Instr.setDlc 16).wellFormed = false := by decide
theorem test_length_15_accepted : (Instr.setDlc 15).wellFormed = true := by decide
theorem test_axis_65536_refused : (Instr.idEnc false 65536 0).wellFormed = false := by decide
theorem test_command_65536_refused : (Instr.idEnc false 0 65536).wellFormed = false := by decide
theorem test_heartbeat_axis_65536_refused : (Instr.hbWait 65536).wellFormed = false := by decide

/-! ## Every constructor's decoding, by a word written out from 30_encoding.md R65 and R67 -/

theorem test_decode_nop :
    decode 0b0000000000000000 0xDEADBEEF = .op .nop := by decide
theorem test_decode_idEnc :
    decode 0b0000100000000001 0x00020009 = .op (.idEnc true 2 9) := by decide
theorem test_decode_idEnc_command :
    decode 0b0000100000000000 0x003F001F = .op (.idEnc false 63 31) := by decide
theorem test_decode_idDec_value :
    decode 0b0001000000000000 0x00000049 = .op (.idDec (.value 0x49)) := by decide
theorem test_decode_idDec_rx :
    decode 0b0001000000000001 5 = .op (.idDec .rx) := by decide
theorem test_decode_idDec_frame :
    decode 0b0001000000000010 5 = .op (.idDec .frame) := by decide
theorem test_decode_bufClr :
    decode 0b0001100000000000 0 = .op .bufClr := by decide
theorem test_decode_setDlc :
    decode 0b0010000000001001 0 = .op (.setDlc 9) := by decide
theorem test_decode_setTimeout :
    decode 0b0010100000000000 0x00010000 = .op (.setTimeout 0x00010000) := by decide
theorem test_decode_setPolicy :
    decode 0b0011000000000001 0 = .op (.setPolicy true) := by decide
theorem test_decode_packU8 :
    decode 0b0100011100000000 0x1FF = .op (.packU8 7 0x1FF) := by decide
theorem test_decode_packI16 :
    decode 0b0100111000000000 0xFFFF8000 = .op (.packI16 6 0xFFFF8000) := by decide
theorem test_decode_packI32 :
    decode 0b0101000100000000 0xFFFFFFFE = .op (.packI32 1 0xFFFFFFFE) := by decide
theorem test_decode_packU32 :
    decode 0b0101101100000000 0x01020304 = .op (.packU32 3 0x01020304) := by decide
theorem test_decode_packF32 :
    decode 0b0110001000000000 0x41480000 = .op (.packF32 2 0x41480000) := by decide
theorem test_decode_packFf16 :
    decode 0b0110110000000000 0x40200000 = .op (.packFf16 4 0x40200000) := by decide
theorem test_decode_packFf8 :
    decode 0b0111011000000000 0x3F800000 = .op (.packFf8 6 0x3F800000) := by decide
theorem test_decode_unpackU8 :
    decode 0b1000011110000000 0 = .op (.unpackU8 7 .tx) := by decide
theorem test_decode_unpackI16 :
    decode 0b1000110000000000 0 = .op (.unpackI16 4 .rx) := by decide
theorem test_decode_unpackI32 :
    decode 0b1001010100000000 0 = .op (.unpackI32 5 .rx) := by decide
theorem test_decode_unpackU32 :
    decode 0b1001100110000000 0 = .op (.unpackU32 1 .tx) := by decide
theorem test_decode_unpackF32 :
    decode 0b1010010010000000 0 = .op (.unpackF32 4 .tx) := by decide
theorem test_decode_unpackFf16 :
    decode 0b1010111000000000 0 = .op (.unpackFf16 6 .rx) := by decide
theorem test_decode_xchg :
    decode 0b1100000000000000 0 = .op .xchg := by decide
theorem test_decode_hbWait :
    decode 0b1100100000000000 0x00001234 = .op (.hbWait 0) := by decide

/-! ## Illegal words (95_test_vectors.md section 2.1) -/

theorem test_illegal_nop_bit0 : decode 0x0001 0 = .illegal .reservedBit := by decide
theorem test_illegal_idDec_source3 : decode 0x1003 0 = .illegal .idDecSource3 := by decide
theorem test_illegal_setDlc_bit4 : decode 0x2010 0 = .illegal .reservedBit := by decide
theorem test_illegal_setTimeout_bit0 : decode 0x2801 0 = .illegal .reservedBit := by decide
theorem test_illegal_opcode_00111 : decode 0x3800 0 = .illegal .reservedOpcode := by decide
theorem test_illegal_packU8_bit7 : decode 0x4080 0 = .illegal .reservedBit := by decide
theorem test_illegal_opcode_01111 : decode 0x7800 0 = .illegal .reservedOpcode := by decide
theorem test_illegal_unpackU8_bit6 : decode 0x8040 0 = .illegal .reservedBit := by decide
theorem test_illegal_opcode_10110 : decode 0xB000 0 = .illegal .reservedOpcode := by decide
theorem test_illegal_xchg_bit0 : decode 0xC001 0 = .illegal .reservedBit := by decide
theorem test_illegal_opcode_11010 : decode 0xD000 0 = .illegal .reservedOpcode := by decide
theorem test_illegal_opcode_11111 : decode 0xF800 0 = .illegal .reservedOpcode := by decide

/-! ## The table's numbering -/

theorem test_table_word_data_above_cmd :
    decodeTableWord 48 0x000200090801 = some (.idEnc true 2 9) := by decide
theorem test_table_word_short_has_data_0 :
    decodeTableWord 16 0x000200090801 = some (.idEnc true 0 0) := by decide
theorem test_table_word_illegal : decodeTableWord 16 0x1003 = none := by decide
theorem test_fetch_word_runs_first :
    step (State.reset.withFetchWord 16 0x2008) =
      exec (.setDlc 8) (State.reset.withFetchWord 16 0x2008).beginCycle := by rfl

/-! ## One step each (95_test_vectors.md section 2.2) -/

/-- R74. -/
theorem test_nop_completes :
    fieldOfNext (fun t => (t.lastCode, t.rspV)) (accept { State.reset with lastCode := 7 } 0x0000 0xDEADBEEF) =
      some (0, true) := by decide
/-- `ID_ENC.Q 2, 9`. -/
theorem test_idEnc_query :
    fieldOfNext (fun t => (t.lastCode, t.frameId, t.frameRtr, t.frameValid)) (accept State.reset 0x0801 0x00020009) =
      some (0, 0x049, true, true) := by decide
/-- `ID_ENC 64, 32`. -/
theorem test_idEnc_both_wrong_is_axis :
    fieldOfNext (fun t => (t.lastCode, t.frameId)) (accept { State.reset with frameId := 0x062 } 0x0800 0x00400020) =
      some (3, 0x062) := by decide
/-- `ID_ENC 3, 0x700`. -/
theorem test_idEnc_0x700_is_command_error :
    fieldOfNext (fun t => (t.lastCode, t.frameValid)) (accept State.reset 0x0800 0x00030700) =
      some (4, false) := by decide
/-- `ID_DEC 0x7FF`. -/
theorem test_idDec_largest :
    fieldOfNext (fun t => (t.lastCode, t.result)) (accept State.reset 0x1000 0x000007FF) =
      some (0, 0x003F001F) := by decide
/-- `ID_DEC 0x800`. -/
theorem test_idDec_too_large :
    fieldOfNext (fun t => (t.lastCode, t.result)) (accept State.reset 0x1000 0x00000800) =
      some (5, 0) := by decide
/-- `BUF_CLR`. -/
theorem test_bufClr :
    fieldOfNext (fun t => (bytesOf t.txBuf, t.frameDlc)) (accept { unpackStart with frameDlc := 8 } 0x1800 0) =
      some ([0, 0, 0, 0, 0, 0, 0, 0], 0) := by decide
/-- `SET_DLC 8`. -/
theorem test_setDlc_8 :
    fieldOfNext (fun t => (t.lastCode, t.frameDlc)) (accept State.reset 0x2008 0) =
      some (0, 8) := by decide
/-- `SET_DLC 9`. -/
theorem test_setDlc_9 :
    fieldOfNext (fun t => (t.lastCode, t.frameDlc)) (accept State.reset 0x2009 0) =
      some (6, 0) := by decide

/-! ## Pack (95_test_vectors.md section 2.3) -/

/-- `PACK_U8 7, 0x1FF`. -/
theorem test_packU8_truncates :
    fieldOfNext (fun t => (t.lastCode, bytesOf t.txBuf)) (accept State.reset 0x4700 0x000001FF) =
      some (0, [0, 0, 0, 0, 0, 0, 0, 0xFF]) := by decide
/-- `PACK_I16 6, -32768`. -/
theorem test_packI16_min :
    fieldOfNext (fun t => (t.lastCode, bytesOf t.txBuf)) (accept State.reset 0x4E00 0xFFFF8000) =
      some (0, [0, 0, 0, 0, 0, 0, 0, 0x80]) := by decide
/-- `PACK_I16 7, 1`. -/
theorem test_packI16_past_end :
    fieldOfNext (fun t => (t.lastCode, bytesOf t.txBuf)) (accept State.reset 0x4F00 1) =
      some (7, [0, 0, 0, 0, 0, 0, 0, 0]) := by decide
/-- `PACK_I32 1, -2`. -/
theorem test_packI32_unaligned :
    fieldOfNext (fun t => (t.lastCode, bytesOf t.txBuf)) (accept State.reset 0x5100 0xFFFFFFFE) =
      some (0, [0, 0xFE, 0xFF, 0xFF, 0xFF, 0, 0, 0]) := by decide
/-- `PACK_U32 3, 0x01020304`. -/
theorem test_packU32_order :
    fieldOfNext (fun t => (t.lastCode, bytesOf t.txBuf)) (accept State.reset 0x5B00 0x01020304) =
      some (0, [0, 0, 0, 4, 3, 2, 1, 0]) := by decide
/-- `PACK_F32 0, NaN payload`. -/
theorem test_packF32_nan :
    fieldOfNext (fun t => (t.lastCode, bytesOf t.txBuf)) (accept State.reset 0x6000 0x7FC00001) =
      some (0, [1, 0, 0xC0, 0x7F, 0, 0, 0, 0]) := by decide
/-- `PACK_FF16 6, -2.5`. -/
theorem test_packFf16_negative :
    fieldOfNext (fun t => (t.lastCode, bytesOf t.txBuf)) (accept State.reset 0x6E00 0xC0200000) =
      some (0, [0, 0, 0, 0, 0, 0, 0x3C, 0xF6]) := by decide
/-- `PACK_FF16 7, nan`. -/
theorem test_packFf16_nan_past_end :
    fieldOfNext (fun t => t.lastCode) (accept State.reset 0x6F00 0x7FC00000) =
      some 7 := by decide
/-- `PACK_FF8 6, 1.0`. -/
theorem test_packFf8_keeps_next :
    fieldOfNext (fun t => (t.lastCode, bytesOf t.txBuf)) (accept { State.reset with txBuf := [(7, 0x99)] } 0x7600 0x3F800000) =
      some (0, [0, 0, 0, 0, 0, 0, 0xE8, 0x99]) := by decide
/-- `PACK_FF8 0, 32.768`. -/
theorem test_packFf8_checks_16_bits :
    fieldOfNext (fun t => (t.lastCode, bytesOf t.txBuf)) (accept State.reset 0x7000 0x4203126F) =
      some (8, [0, 0, 0, 0, 0, 0, 0, 0]) := by decide

/-! ## Scaling in both modes (95_test_vectors.md section 2.3) -/

theorem test_ffscale_2_3 :
    ffscale .b32Rne 0x40133333 = some 2300 ∧ ffscale .exact 0x40133333 = some 2299 := by decide
theorem test_ffscale_32_767 :
    ffscale .b32Rne 0x42031168 = some 32766 ∧ ffscale .exact 0x42031168 = some 32766 := by decide
theorem test_ffscale_minus_32_768 :
    ffscale .b32Rne 0xC203126F = some 0x8000 ∧ ffscale .exact 0xC203126F = some 0x8000 := by decide
theorem test_ffscale_32_768 :
    ffscale .b32Rne 0x4203126F = none ∧ ffscale .exact 0x4203126F = none := by decide
theorem test_ffscale_subnormal :
    ffscale .b32Rne 0x00000001 = some 0 ∧ ffscale .exact 0x00000001 = some 0 := by decide
theorem test_ffscale_minus_zero :
    ffscale .b32Rne 0x80000000 = some 0 ∧ ffscale .exact 0x80000000 = some 0 := by decide
theorem test_ffscale_0_001 :
    ffscale .b32Rne 0x3A83126F = some 1 ∧ ffscale .exact 0x3A83126F = some 1 := by decide
theorem test_ffscale_minus_infinity :
    ffscale .b32Rne 0xFF800000 = none ∧ ffscale .exact 0xFF800000 = none := by decide

/-! ## Unpack (95_test_vectors.md section 2.4) -/

/-- `UNPACK_U8 0`. -/
theorem test_unpackU8_not_signed :
    fieldOfNext (fun t => (t.lastCode, t.result)) (accept unpackStart 0x8000 0) =
      some (0, 0x000000FE) := by decide
/-- `UNPACK_U8 TX, 7`. -/
theorem test_unpackU8_tx :
    fieldOfNext (fun t => (t.lastCode, t.result)) (accept unpackStart 0x8780 0) =
      some (0, 0x00000088) := by decide
/-- `UNPACK_I16 4`. -/
theorem test_unpackI16_signed :
    fieldOfNext (fun t => (t.lastCode, t.result)) (accept unpackStart 0x8C00 0) =
      some (0, 0xFFFF8000) := by decide
/-- `UNPACK_I16 7`. -/
theorem test_unpackI16_past_end :
    fieldOfNext (fun t => (t.lastCode, t.result)) (accept unpackStart 0x8F00 0) =
      some (7, 0) := by decide
/-- `UNPACK_I32 0`. -/
theorem test_unpackI32 :
    fieldOfNext (fun t => (t.lastCode, t.result)) (accept unpackStart 0x9000 0) =
      some (0, 0xFFFFFFFE) := by decide
/-- `UNPACK_I32 5`. -/
theorem test_unpackI32_past_end :
    fieldOfNext (fun t => (t.lastCode, t.result)) (accept unpackStart 0x9500 0) =
      some (7, 0) := by decide
/-- `UNPACK_U32 TX, 1`. -/
theorem test_unpackU32_unaligned_tx :
    fieldOfNext (fun t => (t.lastCode, t.result)) (accept unpackStart 0x9980 0) =
      some (0, 0x55443322) := by decide
/-- `UNPACK_F32 TX, 4`. -/
theorem test_unpackF32_tx :
    fieldOfNext (fun t => (t.lastCode, t.result)) (accept unpackStart 0xA480 0) =
      some (0, 0x88776655) := by decide
/-- `UNPACK_FF16 4`. -/
theorem test_unpackFf16_min :
    fieldOfNext (fun t => (t.lastCode, t.result)) (accept unpackStart 0xAC00 0) =
      some (0, 0xC203126F) := by decide
/-- `UNPACK_FF16 0`. -/
theorem test_unpackFf16_minus_2 :
    fieldOfNext (fun t => (t.lastCode, t.result)) (accept unpackStart 0xA800 0) =
      some (0, 0xBB03126F) := by decide

/-- 95_test_vectors.md section 2.4, the quotients of 1 and 12345. -/
theorem test_ffUnscale_quotients :
    ffUnscale 1 = 0x3A83126F ∧ ffUnscale 12345 = 0x4145851F := by decide

/-! ## Configuration and the engine (95_test_vectors.md sections 2.5 to 2.7) -/

/-- `SET_TIMEOUT 65535`. -/
theorem test_setTimeout_65535 :
    fieldOfNext (fun t => (t.lastCode, t.timeoutMs)) (accept State.reset 0x2800 0x0000FFFF) =
      some (0, 65535) := by decide
/-- `SET_TIMEOUT 65536`. -/
theorem test_setTimeout_65536 :
    fieldOfNext (fun t => (t.lastCode, t.timeoutMs)) (accept State.reset 0x2800 0x00010000) =
      some (8, 5) := by decide
/-- `SET_POLICY SILENT`. -/
theorem test_setPolicy_silent :
    fieldOfNext (fun t => (t.lastCode, t.silent)) (accept State.reset 0x3001 0) =
      some (0, true) := by decide
/-- X0. -/
theorem test_xchg_without_frame :
    fieldOfNext (fun t => (t.lastCode, t.rspV, t.fsm)) (accept State.reset 0xC000 0) =
      some (11, true, .idle) := by decide
/-- X4, at acceptance. -/
theorem test_xchg_query_zeroes_reply :
    fieldOfNext (fun t => (t.fsm, t.waitId, bytesOf t.rxBuf, t.rxDlc)) (accept { query with rxBuf := [(0, 9)], rxDlc := 8 } 0xC000 0) =
      some (.tx, 0x049, [0, 0, 0, 0, 0, 0, 0, 0], 0) := by decide
/-- X11 and L1-9. -/
theorem test_hbWait_5 :
    fieldOfNext (fun t => (t.fsm, t.rspV, t.waitId)) (accept State.reset 0xC800 0x00050000) =
      some (.waitHb, false, 0x0A1) := by decide
/-- X13. -/
theorem test_hbWait_64 :
    fieldOfNext (fun t => (t.fsm, t.lastCode)) (accept State.reset 0xC800 0x00400000) =
      some (.idle, 3) := by decide
/-- X1. -/
theorem test_tx_zero_timeout :
    fieldOfNext (fun t => (t.fsm, t.lastCode, t.rspV))
      (step { txZero with inputs := [{ txReady := true, txOk := true }] }) =
      some (.idle, 1, true) := by decide
/-- X4. -/
theorem test_tx_rejected :
    fieldOfNext (fun t => (t.fsm, t.lastCode, t.rspV))
      (step { txZero with inputs := [{ txReady := true }] }) =
      some (.idle, 9, true) := by decide
/-- X7. -/
theorem test_tx_ticks_ignored :
    fieldOfNext (fun t => (t.fsm, t.tickCnt))
      (step { txZero with inputs := [{ msTick := true }] }) =
      some (.tx, 0) := by decide
/-- X2. -/
theorem test_match_wins_over_last_tick :
    fieldOfNext (fun t => (t.lastCode, t.rxDlc, bytesOf t.rxBuf))
      (step { waitLast with inputs := [{ frameIn 0x049 false 4 0x0807060504030201 with msTick := true }] }) =
      some (0, 4, [1, 2, 3, 4, 0, 0, 0, 0]) := by decide
/-- X3. -/
theorem test_last_tick_times_out :
    fieldOfNext (fun t => (t.fsm, t.lastCode, t.rspV))
      (step { waitLast with inputs := [{ msTick := true }] }) =
      some (.idle, 1, true) := by decide
/-- X5. -/
theorem test_dlc_12_capped :
    fieldOfNext (fun t => (t.rxDlc, t.rxRtr, bytesOf t.rxBuf))
      (step { waiting with inputs := [frameIn 0x049 true 12 0x0807060504030201] }) =
      some (8, true, [1, 2, 3, 4, 5, 6, 7, 8]) := by decide
/-- P2, cycle 5. -/
theorem test_other_frame_discarded :
    fieldOfNext (fun t => (t.fsm, t.rxBuf, t.tickCnt))
      (step { waiting with inputs := [{ frameIn 0x021 false 8 5 with msTick := true }] }) =
      some (.waitRsp, [], 1) := by decide
/-- X12. -/
theorem test_remote_frame_matches_heartbeat :
    fieldOfNext (fun t => (t.lastCode, t.fsm, t.rxRtr, t.rxDlc))
      (step { heartbeatWait with inputs := [frameIn 0x021 true 0 0] }) =
      some (0, .idle, true, 0) := by decide
/-- X9. -/
theorem test_busy_port_accepts_nothing :
    fieldOfNext (fun t => (t.fsm, t.timeoutMs))
      (step { txZero with inputs := [{ cmdValid := true, cmd := 0x2800, data := 9 }] }) =
      some (.tx, 0) := by decide
/-- X10. -/
theorem test_reset_ends_a_wait :
    fieldOfNext (fun t => (t.fsm, t.rspV, t.frameId, t.frameDlc))
      (step { waiting with inputs := [{ rst := true, cmdValid := true, cmd := 0x2008 }] }) =
      some (.idle, false, 0, 0) := by decide

/-! ## For every obligation with hypotheses, a state and operands that meet them

Each theorem is named after its obligation; a clause with hypotheses of its own is met at a boundary
value of its range. -/

/-- The reset state in which the host offers a command word. -/
def offering (cmd : CmdWord) (data : DataWord) : State :=
  resetWith { cmdValid := true, cmd := cmd, data := data }

/-- The transport takes the offered frame. -/
def taken : Inputs := { txReady := true, txOk := true }

/-- A state with one cycle of inputs. -/
def inCycle (s : State) (i : Inputs) : State := { s with inputs := [i] }

/-- Nothing happens on any port. -/
def quiet : Inputs := {}

theorem witness_ResetEdgeRestoresEveryRegister : (resetWith { rst := true }).now.rst = true := by
  decide

theorem witness_StepRunsTheAcceptedOperation :
    (offering 0x2008 0).fsm = .idle ∧ (offering 0x2008 0).now.rst = false ∧
      (offering 0x2008 0).now.cmdValid = true ∧
      decode (offering 0x2008 0).now.cmd (offering 0x2008 0).now.data = .op (.setDlc 8) := by
  decide

theorem witness_IdleCycleWithoutOfferChangesNothing :
    (resetWith {}).fsm = .idle ∧ (resetWith {}).now.rst = false ∧
      (resetWith {}).now.cmdValid = false := by
  decide

theorem witness_IllegalWordOnlyReportsIllegal :
    (offering 0x1003 0).fsm = .idle ∧ (offering 0x1003 0).now.rst = false ∧
      (offering 0x1003 0).now.cmdValid = true ∧ legalWord (offering 0x1003 0).now.cmd = false := by
  decide

theorem witness_DecodeOfEncodeIsTheInstruction :
    (Instr.idEnc true 65535 65535).wellFormed = true ∧ (Instr.unpackU8 7 .tx).wellFormed = true := by
  decide

theorem witness_DecodedWordIsTheEncodingOfItsInstruction :
    decode 0xAF80 0xFFFFFFFF = .op (.unpackFf16 7 .tx) := by
  decide

theorem witness_DecoderAgreesWithTheOpcodeTable : decode 0x200F 0 = .op (.setDlc 15) := by decide

theorem witness_NopOnlyCompletes :
    (0x0001 : CmdWord).toNat / 2048 = 0 ∧ (0x0001 : CmdWord) ≠ 0 ∧
      (0x07FF : CmdWord).toNat / 2048 = 0 ∧ (0x07FF : CmdWord) ≠ 0 := by
  decide

theorem witness_IdEncComposesOrRejects :
    (63 < 64) ∧ (63 ≤ 63 ∧ 31 < 32) ∧ (63 ≤ 63 ∧ 31 ≤ 31) := by
  decide

theorem witness_EveryIdHasExactlyOneAxisAndCommand :
    (63 ≤ 63 ∧ 31 ≤ 31) ∧
      ∃ t, exec (.idEnc true 63 31) State.reset = .next t ∧ t.frameId = 0x7FF :=
  ⟨by decide, _, rfl, by decide⟩

theorem witness_IdDecDecomposesOrRejects :
    0x7FF < (0x800 : DataWord).toNat ∧
      (∃ v : DataWord, IdSrc.value 0x7FF = .value v ∧ 0x7FF = v.toNat ∧ v.toNat ≤ 0x7FF) ∧
      (63 ≤ 63 ∧ 31 ≤ 31) :=
  ⟨by decide, ⟨0x7FF, rfl, by decide, by decide⟩, by decide⟩

theorem witness_SetDlcSetsTheLengthOrRejects : 15 < 16 ∧ 8 < 9 ∧ 8 ≤ 8 := by decide

theorem witness_PackU8StoresTheLowByte : 7 < 8 := by decide

theorem witness_PackI16StoresTheLowHalf : 7 < 8 ∧ 8 < 7 + 2 ∧ 6 + 2 ≤ 8 := by decide

theorem witness_PackWordStoresAllFourBytes :
    7 < 8 ∧ 5 ≤ 5 ∧ 4 ≤ 4 ∧
      Instr.packF32 4 0 ∈ [Instr.packI32 4 0, Instr.packU32 4 0, Instr.packF32 4 0] := by
  decide

theorem witness_FfscaleTruncatesTheProduct :
    (¬ b32Finite 0x7F800001 ∧ ¬ b32Finite 0xFF800000) ∧ b32Finite 0x7F7FFFFF ∧
      B32.isInf (B32.mulRne 0x7F7FFFFF 0x447A0000) = true ∧ b32Finite 0x40133333 ∧
      B32.isInf (B32.mulRne 0x40133333 0x447A0000) = false := by
  unfold b32Finite
  decide +kernel

/-- The last finite pattern whose product stays finite, and the next one, with the other sign. -/
theorem witness_FfscaleTruncatesTheProduct_range :
    (b32Finite 0x7A83126E ∧ B32.magnitude 0x7A83126E * 1000 < (2 ^ 25 - 1) * 2 ^ 252) ∧
      b32Finite 0xFA83126F ∧ (2 ^ 25 - 1) * 2 ^ 252 ≤ B32.magnitude 0xFA83126F * 1000 := by
  unfold b32Finite
  decide +kernel

theorem witness_FfscaleOfTinyValuesIsZero :
    (b32Finite 0x3A83126E ∧ B32.magnitude 0x3A83126E * 1000 < 2 ^ 149) ∧
      b32Finite 0x807FFFFF ∧ B32.magnitude 0x807FFFFF * 1000 < 2 ^ 149 := by
  unfold b32Finite
  decide

theorem witness_FfModesDifferOnlyAcrossAnInteger :
    b32Finite 0x40133333 ∧ ffscale .b32Rne 0x40133333 ≠ ffscale .exact 0x40133333 := by
  unfold b32Finite
  decide

theorem witness_RoundingIsNearestTiesToEven :
    0 < 1 ∧ 1 * ((2 ^ 25 - 1) * 2 ^ 252) ≤ (2 ^ 25 - 1) * 2 ^ 252 ∧
      (2 ^ 25 - 1) * 2 ^ 252 - 1 < 1 * ((2 ^ 25 - 1) * 2 ^ 252) :=
  ⟨Nat.one_pos, by rw [Nat.one_mul], by
    rw [Nat.one_mul]
    exact Nat.sub_lt (Nat.mul_pos (by decide) (Nat.two_pow_pos 252)) Nat.one_pos⟩

theorem witness_PackFf16StoresTheScaledValue :
    7 < 8 ∧ 8 < 7 + 2 ∧ (6 + 2 ≤ 8 ∧ ffscale State.reset.cfg.ffMul 0x7FC00000 = none) ∧
      6 + 2 ≤ 8 ∧ ffscale State.reset.cfg.ffMul 0x40200000 = some 2500 := by
  decide

theorem witness_PackFf8StoresTheLowByteOnly :
    7 < 8 ∧ ffscale State.reset.cfg.ffMul 0x4203126F = none ∧
      ffscale State.reset.cfg.ffMul 0x3F800000 = some 1000 := by
  decide

theorem witness_UnpackU8ReadsOneByte : 7 < 8 := by decide

theorem witness_UnpackI16ReadsASignedHalf :
    7 < 8 ∧ 8 < 7 + 2 ∧ 6 + 2 ≤ 8 ∧
      holdsField (unpackStart.buffer .rx) 6 2 (2500 : BitVec 16) := by
  unfold holdsField
  decide

theorem witness_UnpackWordReadsAllFourBytes :
    7 < 8 ∧ 5 ≤ 5 ∧ 4 ≤ 4 ∧ holdsField (unpackStart.buffer .rx) 4 4 (0x09C48000 : DataWord) ∧
      Instr.unpackU32 4 .rx ∈ [Instr.unpackI32 4 .rx, .unpackU32 4 .rx, .unpackF32 4 .rx] := by
  unfold holdsField
  decide

/-- The reset state with a 16-bit field at offset 6 of RX_BUF. -/
def withHalf (lo hi : Byte) : State :=
  { State.reset with rxBuf := bytes [0, 0, 0, 0, 0, 0, lo, hi] }

theorem witness_UnpackFf16DividesByOneThousand :
    7 < 8 ∧ 8 < 7 + 2 ∧ 6 + 2 ≤ 8 ∧
      holdsField ((withHalf 0 0).buffer .rx) 6 2 (0 : BitVec 16) ∧
      holdsField ((withHalf 1 0).buffer .rx) 6 2 (1 : BitVec 16) ∧
      holdsField ((withHalf 0xFF 0x7F).buffer .rx) 6 2 (32767 : BitVec 16) ∧
      holdsField ((withHalf 0 0x80).buffer .rx) 6 2 (0x8000 : BitVec 16) ∧
      holdsField ((withHalf 0xC4 0x09).buffer .rx) 6 2 (2500 : BitVec 16) := by
  unfold holdsField
  decide

theorem witness_FieldPastTheBufferIsRefused :
    (fieldOf (.packI16 7 0) = some (7, 2) ∧ 8 < 7 + 2) ∧
      fieldOf (.unpackU8 7 .rx) = some (7, 1) ∧ 7 + 1 ≤ 8 ∧
      ∃ t, exec (.unpackU8 7 .rx) State.reset = .next t :=
  ⟨by decide, by decide, by decide, _, rfl⟩

theorem witness_NarrowReadsSeeTheBytesOfAWord :
    4 + 4 ≤ 8 ∧ 3 < 4 ∧ 2 < 3 ∧ (3 + 2 ≤ 8 ∧ 1 < 2) ∧ (7 < 4 ∨ 3 + 4 ≤ 7) := by decide

theorem witness_PackUnpackAndIdOperationsAreIdempotent :
    ((fieldOf (.packI16 6 1)).isSome ∧ ∃ t, exec (.packI16 6 1) State.reset = .next t) ∧
      (Instr.idEnc true 2 9).opcode = .idEnc ∧ (Instr.idDec .rx).opcode = .idDec :=
  ⟨⟨by decide, _, rfl⟩, by decide, by decide⟩

theorem witness_SetTimeoutSetsTheTimeoutOrRejects :
    65535 < (0x00010000 : DataWord).toNat ∧ (0x0000FFFF : DataWord).toNat ≤ 65535 := by
  decide

theorem witness_XchgStartsSendingTheFrame :
    State.reset.frameValid = false ∧ (command.frameValid = true ∧ command.frameRtr = false) ∧
      query.frameValid = true ∧ query.frameRtr = true := by
  decide

theorem witness_HbWaitStartsWaitingForTheAxis : 63 < 64 ∧ 63 ≤ 63 := by decide

/-- A command in TX. -/
def sendingCommand : State := { command with fsm := .tx, waitId := 0x062 }

/-- A query in TX with the reset timeout. -/
def sendingQuery : State := { query with fsm := .tx, waitId := 0x049 }

theorem witness_TxEdge_notAnswered :
    (inCycle sendingQuery quiet).fsm = .tx ∧ (inCycle sendingQuery quiet).now.rst = false ∧
      (inCycle sendingQuery quiet).now.txReady = false := by
  decide

theorem witness_TxEdge_rejected :
    (inCycle sendingQuery { txReady := true }).fsm = .tx ∧
      (inCycle sendingQuery { txReady := true }).now.rst = false ∧
      (inCycle sendingQuery { txReady := true }).now.txReady = true ∧
      (inCycle sendingQuery { txReady := true }).now.txOk = false := by
  decide

theorem witness_TxEdge_commandSent :
    (inCycle sendingCommand taken).fsm = .tx ∧ (inCycle sendingCommand taken).now.rst = false ∧
      (inCycle sendingCommand taken).now.txReady = true ∧
      (inCycle sendingCommand taken).now.txOk = true ∧
      (inCycle sendingCommand taken).frameRtr = false := by
  decide

theorem witness_TxEdge_queryWithTimeoutZero :
    (inCycle txZero taken).fsm = .tx ∧ (inCycle txZero taken).now.rst = false ∧
      (inCycle txZero taken).now.txReady = true ∧ (inCycle txZero taken).now.txOk = true ∧
      (inCycle txZero taken).frameRtr = true ∧ (inCycle txZero taken).timeoutMs = 0 := by
  decide

theorem witness_TxEdgeFollowsTheTransport :
    (inCycle sendingQuery taken).fsm = .tx ∧ (inCycle sendingQuery taken).now.rst = false ∧
      (inCycle sendingQuery taken).now.txReady = true ∧
      (inCycle sendingQuery taken).now.txOk = true ∧
      (inCycle sendingQuery taken).frameRtr = true ∧
      (inCycle sendingQuery taken).timeoutMs ≠ 0 := by
  decide

theorem witness_WaitRspEdge_match :
    (inCycle waitLast (frameIn 0x049 false 4 0)).fsm = .waitRsp ∧
      (inCycle waitLast (frameIn 0x049 false 4 0)).now.rst = false ∧
      (inCycle waitLast (frameIn 0x049 false 4 0)).now.rxValid = true ∧
      (inCycle waitLast (frameIn 0x049 false 4 0)).now.rxId =
        (inCycle waitLast (frameIn 0x049 false 4 0)).waitId := by
  decide

theorem witness_WaitRspEdge_nothing :
    (inCycle waiting quiet).fsm = .waitRsp ∧ (inCycle waiting quiet).now.rst = false ∧
      ¬((inCycle waiting quiet).now.rxValid = true ∧
        (inCycle waiting quiet).now.rxId = (inCycle waiting quiet).waitId) ∧
      (inCycle waiting quiet).now.msTick = false := by
  decide

/-- One tick, and the frame offered with it is another axis's. -/
def otherWithTick : Inputs := { frameIn 0x021 false 8 5 with msTick := true }

theorem witness_WaitRspEdge_tickBeforeTheLast :
    (inCycle waiting otherWithTick).fsm = .waitRsp ∧
      (inCycle waiting otherWithTick).now.rst = false ∧
      ¬((inCycle waiting otherWithTick).now.rxValid = true ∧
        (inCycle waiting otherWithTick).now.rxId = (inCycle waiting otherWithTick).waitId) ∧
      (inCycle waiting otherWithTick).now.msTick = true ∧
      (inCycle waiting otherWithTick).tickCnt.toNat + 1 <
        (inCycle waiting otherWithTick).timeoutMs.toNat := by
  decide

theorem witness_WaitRspEdgeMatchesOrCounts :
    (inCycle waitLast otherWithTick).fsm = .waitRsp ∧
      (inCycle waitLast otherWithTick).now.rst = false ∧
      ¬((inCycle waitLast otherWithTick).now.rxValid = true ∧
        (inCycle waitLast otherWithTick).now.rxId = (inCycle waitLast otherWithTick).waitId) ∧
      (inCycle waitLast otherWithTick).now.msTick = true ∧
      (inCycle waitLast otherWithTick).timeoutMs.toNat ≤
        (inCycle waitLast otherWithTick).tickCnt.toNat + 1 := by
  decide

theorem witness_WaitHbEdgeOnlyMatches :
    (inCycle heartbeatWait quiet).fsm = .waitHb ∧ (inCycle heartbeatWait quiet).now.rst = false ∧
      ((inCycle heartbeatWait (frameIn 0x021 false 8 5)).now.rxValid = true ∧
        (inCycle heartbeatWait (frameIn 0x021 false 8 5)).now.rxId = heartbeatWait.waitId) ∧
      ¬((inCycle heartbeatWait (frameIn 0x049 false 8 5)).now.rxValid = true ∧
        (inCycle heartbeatWait (frameIn 0x049 false 8 5)).now.rxId = heartbeatWait.waitId) := by
  decide

/-- The host offers XCHG. -/
def offerXchg : Inputs := { cmdValid := true, cmd := 0xC000 }

theorem witness_CommandExchangeCompletesWhenSent :
    command.fsm = .idle ∧ command.frameValid = true ∧ command.frameRtr = false ∧
      ({ command with inputs := offerXchg :: ([quiet] ++ taken :: []) } : State).inputs =
        offerXchg :: ([quiet] ++ taken :: []) ∧
      offerXchg.rst = false ∧ offerXchg.cmdValid = true ∧ offerXchg.cmd = 0xC000 ∧
      (∀ i ∈ [quiet], i.rst = false ∧ i.txReady = false) ∧
      taken.rst = false ∧ taken.txReady = true ∧ taken.txOk = true := by
  decide

theorem witness_AnsweredQueryCapturesTheReply :
    query.fsm = .idle ∧ query.frameValid = true ∧ query.frameRtr = true ∧
      offerXchg.rst = false ∧ offerXchg.cmdValid = true ∧ offerXchg.cmd = 0xC000 ∧
      (∀ i ∈ [quiet], i.rst = false ∧ i.txReady = false) ∧
      taken.rst = false ∧ taken.txReady = true ∧ taken.txOk = true ∧
      (∀ i ∈ [otherWithTick],
        noReplyIn query.frameId i) ∧
      ticksIn [otherWithTick] <
        query.timeoutMs.toNat ∧
      (frameIn 0x049 false 4 7).rst = false ∧ (frameIn 0x049 false 4 7).rxValid = true ∧
      (frameIn 0x049 false 4 7).rxId = query.frameId := by
  unfold noReplyIn
  decide

theorem witness_UnansweredQueryTimesOutAtItsLastTick :
    waitLast.fsm = .waitRsp ∧
      ({ waitLast with inputs := [quiet] ++ { msTick := true } :: [] } : State).inputs =
        [quiet] ++ { msTick := true } :: [] ∧
      (∀ i ∈ [quiet], noReplyIn waitLast.waitId i) ∧
      noReplyIn waitLast.waitId { msTick := true } ∧
      waitLast.tickCnt.toNat + ticksIn [quiet] + 1 = waitLast.timeoutMs.toNat := by
  unfold noReplyIn
  decide

theorem witness_HeartbeatWaitLastsUntilTheHeartbeat :
    heartbeatWait.fsm = .waitHb ∧
      (∀ i ∈ [({ frameIn 0x02D false 8 0 with msTick := true } : Inputs)],
        noReplyIn heartbeatWait.waitId i) ∧
      (frameIn 0x021 false 8 5).rst = false ∧ (frameIn 0x021 false 8 5).rxValid = true ∧
      (frameIn 0x021 false 8 5).rxId = heartbeatWait.waitId := by
  unfold noReplyIn
  decide

/-- A good state: a query on its last tick, which has not been answered. -/
theorem lastTick_inv : Inv (inCycle waitLast { msTick := true }) where
  frameDlc_le := by decide
  rxDlc_le := by decide
  tick_lt := by decide
  rsp_idle := by decide
  code_le := by decide
  txBuf_wf := by decide
  rxBuf_wf := by decide
  exchange_header := by decide
  wait_is_query := by decide
  heartbeat_id := by decide
  reply_zero := fun _ => ⟨fun _ => rfl, rfl⟩

theorem witness_TimedOutQueryReadsAsZero :
    Inv (inCycle waitLast { msTick := true }) ∧
      (inCycle waitLast { msTick := true }).fsm = .waitRsp ∧
      ∃ t, step (inCycle waitLast { msTick := true }) = .next t ∧ t.rspV = true ∧
        t.lastCode = Code.timeout.bits :=
  ⟨lastTick_inv, rfl, _, rfl, by decide, by decide⟩

theorem witness_TimedOutQueryReadsAsZero_unpack :
    (∃ t, step (inCycle waitLast { msTick := true }) = .next t ∧
      ∀ a, t.rxBuf.readByte a = t.rxBuf.readByte a) ∧
      6 + 2 ≤ 8 ∧ fieldOf (.unpackFf16 6 .rx) = some (6, 2) ∧
      Instr.unpackFf16 6 .rx ∈ [Instr.unpackU8 6 .rx, .unpackI16 6 .rx, .unpackI32 6 .rx,
        .unpackU32 6 .rx, .unpackF32 6 .rx, .unpackFf16 6 .rx] :=
  ⟨⟨_, rfl, fun _ => rfl⟩, by decide⟩

theorem witness_EveryStepKeepsTheInvariant :
    Inv (inCycle waitLast { msTick := true }) ∧
      ∃ t, step (inCycle waitLast { msTick := true }) = .next t :=
  ⟨lastTick_inv, _, rfl⟩

theorem witness_EngineTakesOnlyTheListedTransitions :
    ∃ t, step (inCycle waitLast { msTick := true }) = .next t ∧
      (inCycle waitLast { msTick := true }).now.rst = false ∧ t.fsm ≠ waitLast.fsm :=
  ⟨_, rfl, by decide, by decide⟩

theorem witness_BusyEngineKeepsTheFrame :
    txZero.fsm ≠ .idle ∧ (inCycle txZero taken).now.rst = false ∧
      ∃ t, step (inCycle txZero taken) = .next t :=
  ⟨by decide, by decide, _, rfl⟩

theorem witness_RegistersAreWrittenOnlyByTheirOperations :
    Reg.frameDlc ∈ hostRegs ∧ (offering 0x2008 0).now.rst = false ∧
      ∃ t, step (offering 0x2008 0) = .next t ∧ ¬ Reg.frameDlc.same (offering 0x2008 0) t :=
  ⟨by decide, by decide, _, rfl, by show ¬ (_ = _); decide⟩

theorem witness_ReplyIsWrittenOnlyByWaits :
    Reg.rxId ∈ captureRegs ∧ (inCycle waiting (frameIn 0x049 true 12 7)).now.rst = false ∧
      ∃ t, step (inCycle waiting (frameIn 0x049 true 12 7)) = .next t ∧
        ¬ Reg.rxId.same (inCycle waiting (frameIn 0x049 true 12 7)) t :=
  ⟨by decide, by decide, _, rfl, by show ¬ (_ = _); decide⟩

theorem witness_FailureWritesOnlyTheCompletion :
    (offering 0x2009 0).now.rst = false ∧
      ∃ t, step (offering 0x2009 0) = .next t ∧ t.rspV = true ∧ t.lastCode ≠ Code.ok.bits :=
  ⟨by decide, _, rfl, by decide, by decide⟩

theorem witness_ResultCodesComeFromTheirOperations :
    (offering 0x2009 0).now.rst = false ∧
      ∃ t, step (offering 0x2009 0) = .next t ∧ t.rspV = true :=
  ⟨by decide, _, rfl, by decide⟩

theorem witness_CompletionPulseLastsOneCycle :
    ∃ t, step (offering 0x0000 0) = .next t ∧ t.rspV = true :=
  ⟨_, rfl, by decide⟩


end Sys2Proof.Tests
end

/-! The reset table of 10_state.md R40. -/

namespace Sys2Proof.Proofs

open Sys2Proof.Machine

/-- TX_BUF at reset (R25): the buffer lists no byte, and an unlisted byte reads 0x00. -/
@[simp] theorem reset_txBuf_readByte (a : Nat) : State.reset.txBuf.readByte a = 0x00 :=
  Memory.readByte_nil a

/-- RX_BUF at reset (R29), for the same reason. -/
@[simp] theorem reset_rxBuf_readByte (a : Nat) : State.reset.rxBuf.readByte a = 0x00 :=
  Memory.readByte_nil a

/-- LAST_CODE at reset (R31) is the number of the code OK (60_exceptions.md R111). -/
theorem reset_lastCode : State.reset.lastCode = Code.ok.bits := rfl

/-- Settles O1, row by row of the table of R40: the flat registers are the fields of `State.reset`,
the two buffers and LAST_CODE have their own lemmas. -/
theorem resetLeavesEveryRegisterAtItsValue : Obligations.ResetLeavesEveryRegisterAtItsValue := by
  unfold Obligations.ResetLeavesEveryRegisterAtItsValue
  exact ⟨rfl, rfl, rfl, rfl, reset_txBuf_readByte, rfl, rfl, rfl, reset_rxBuf_readByte, rfl,
    reset_lastCode, rfl, rfl, rfl, rfl, rfl, rfl⟩

end Sys2Proof.Proofs

/-! The bounds check of the PACK and UNPACK operations (20_memory.md R47). -/

namespace Sys2Proof.Proofs

open Sys2Proof.Machine Sys2Proof.Safety

theorem completed_complete (s : State) (c : Code) : completed (s.complete c) c := ⟨rfl, rfl, rfl⟩

/-- The frame of a completion (00_scope.md R12): it writes LAST_CODE, RSP_V and FSM only. -/
theorem onlyChanges_complete (s : State) (c : Code) :
    onlyChanges completionRegs s (s.complete c) := by
  intro r hr
  cases r with
  | lastCode | rspV | fsm => exact absurd (by decide) hr
  | txBuf | rxBuf => exact fun _ => rfl
  | _ => rfl

/-- The operations that name a field are made of three shared ones: a plain store, a scaled store
and a read (41_pack.md and 42_unpack.md, common operands). -/
theorem exec_cases_of_fieldOf {i : Instr} {off n : Nat} (h : fieldOf i = some (off, n))
    (s : State) :
    (∃ v, exec i s = packField off n v s) ∨
    (∃ x, exec i s = packScaled off n x s) ∨
    (∃ b value, exec i s = unpackField off n b value s) := by
  cases i with
  | packU8 | packI16 | packI32 | packU32 | packF32 => cases h; exact .inl ⟨_, rfl⟩
  | packFf16 | packFf8 => cases h; exact .inr (.inl ⟨_, rfl⟩)
  | unpackU8 | unpackI16 | unpackI32 | unpackU32 | unpackF32 | unpackFf16 =>
    cases h; exact .inr (.inr ⟨_, _, rfl⟩)
  | _ => cases h

/-- Every one of the three checks the bounds before anything else (60_exceptions.md R114). -/
theorem exec_of_field_past_buffer {i : Instr} {off n : Nat} (h : fieldOf i = some (off, n))
    (past : 8 < off + n) (s : State) : exec i s = .next (s.complete .errOffset) := by
  have unfit : ¬ off + n ≤ 8 := Nat.not_le.2 past
  obtain ⟨v, hv⟩ | ⟨x, hx⟩ | ⟨b, value, hb⟩ := exec_cases_of_fieldOf h s
  · rw [hv, packField_eq, if_neg unfit]
  · rw [hx, packScaled_eq, if_neg unfit]
  · rw [hb, unpackField_eq, if_neg unfit]

/-- Past the check only the range check of a scaled store is left to fail (41_pack.md R85, R86). -/
theorem exec_of_field_in_buffer {i : Instr} {off n : Nat} (h : fieldOf i = some (off, n))
    (fits : off + n ≤ 8) (s : State) :
    exec i s = .next (s.complete .errRange) ∨ ∃ u : State, exec i s = .next (u.complete .ok) := by
  obtain ⟨v, hv⟩ | ⟨x, hx⟩ | ⟨b, value, hb⟩ := exec_cases_of_fieldOf h s
  · rw [hv, packField_eq, if_pos fits]
    exact .inr ⟨_, rfl⟩
  · rw [hx, packScaled_eq, if_pos fits]
    cases ffscale s.cfg.ffMul x with
    | none => exact .inl rfl
    | some w => exact .inr ⟨_, rfl⟩
  · rw [hb, unpackField_eq, if_pos fits]
    exact .inr ⟨_, rfl⟩

/-- Settles O30: a field past the buffer fails the shared bounds check, and one that fits can only
complete with ERR_RANGE or OK. -/
theorem fieldPastTheBufferIsRefused : Obligations.FieldPastTheBufferIsRefused := by
  unfold Obligations.FieldPastTheBufferIsRefused
  intro s i off n h
  constructor
  · intro past
    exact ⟨_, exec_of_field_past_buffer h past s, completed_complete s _, onlyChanges_complete s _⟩
  · intro fits t ht
    obtain hrange | ⟨u, hok⟩ := exec_of_field_in_buffer h fits s
    · obtain rfl := (next_inj _ _).1 (hrange.symm.trans ht)
      rw [State.complete_lastCode]
      decide
    · obtain rfl := (next_inj _ _).1 (hok.symm.trans ht)
      rw [State.complete_lastCode]
      decide

end Sys2Proof.Proofs

/-! Which command words are ILLEGAL, and how many are not (30_encoding.md R65 to R69). -/

namespace Sys2Proof.Proofs

open Sys2Proof.Machine Sys2Proof.Safety

/-! ## The opcode field -/

theorem opcField_toNat (cmd : CmdWord) : (opcField cmd).toNat = cmd.toNat / 2048 := by
  have := cmd.isLt
  rw [opcField, BitVec.extractLsb'_toNat, Nat.shiftRight_eq_div_pow]
  omega

/-- The map of R67 read in both directions. -/
theorem opcodeOfBits_eq_some_iff (b : BitVec 5) (o : Opcode) :
    opcodeOfBits b = some o ↔ b = o.bits := by
  constructor
  · have bits_of_read : ∀ b : BitVec 5, ∀ o ∈ opcodeOfBits b, b = o.bits := by decide
    exact bits_of_read b o
  · rintro rfl
    cases o <;> rfl

/-- The reserved opcodes of R67, written out as R69 counts them. -/
def reservedOpcodes : List Nat :=
  [0b00111, 0b01111, 0b10110, 0b10111, 0b11010, 0b11011, 0b11100, 0b11101, 0b11110, 0b11111]

theorem opcodeOfBits_eq_none_iff (b : BitVec 5) :
    opcodeOfBits b = none ↔ b.toNat ∈ reservedOpcodes := by
  revert b; decide

/-! ## The rows of the table -/

/-- The row of opcode_table.json as R65 and R67 make it: the mask holds OPC and the reserved bits,
and the reserved bits of the pattern are 0. -/
def rowOf (o : Opcode) : TableRow := ⟨o, 0xF800 ||| o.format.reservedMask, o.bits ++ 0#11⟩

theorem rowOf_mem (o : Opcode) : rowOf o ∈ opcodeTable := by
  cases o <;> decide

theorem eq_rowOf_of_mem : ∀ row ∈ opcodeTable, row = rowOf row.opcode := by decide

theorem exists_row_iff (P : TableRow → Prop) :
    (∃ row ∈ opcodeTable, P row) ↔ ∃ o, P (rowOf o) := by
  constructor
  · rintro ⟨row, hmem, hrow⟩
    exact ⟨row.opcode, eq_rowOf_of_mem row hmem ▸ hrow⟩
  · rintro ⟨o, ho⟩
    exact ⟨rowOf o, rowOf_mem o, ho⟩

theorem rowOf_pattern_toNat (o : Opcode) : (rowOf o).pattern.toNat = 2048 * o.bits.toNat := by
  cases o <;> rfl

/-- A reserved bit is no bit of OPC. -/
theorem reservedMask_eq_append (f : Format) :
    f.reservedMask = 0#5 ++ f.reservedMask.extractLsb' 0 11 := by
  cases f <;> decide

theorem eq_opcField_append (cmd : CmdWord) : cmd = opcField cmd ++ cmd.extractLsb' 0 11 := by
  rw [opcField, BitVec.extractLsb'_append_extractLsb'_eq_extractLsb' (by decide),
    BitVec.extractLsb'_eq_self]

/-- Under its opcode a word matches the row exactly where its reserved bits are clear. -/
theorem matches_rowOf_iff {cmd : CmdWord} {o : Opcode} (hopc : opcField cmd = o.bits) :
    cmd &&& (rowOf o).mask = (rowOf o).pattern ↔ cmd &&& o.format.reservedMask = 0 := by
  have hmask : (rowOf o).mask = BitVec.allOnes 5 ++ o.format.reservedMask.extractLsb' 0 11 := by
    cases o <;> decide
  have hzero : (0 : CmdWord) = 0#5 ++ 0#11 := rfl
  have hpattern : (rowOf o).pattern = o.bits ++ 0#11 := rfl
  rw [hzero, reservedMask_eq_append, hmask, hpattern, eq_opcField_append cmd, hopc,
    BitVec.and_append, BitVec.and_append, BitVec.and_allOnes, BitVec.and_zero,
    BitVec.append_right_inj, BitVec.append_right_inj]

/-! ## The reserved bits as numbers -/

/-- Where the reserved bits of a format begin (R65). -/
def reservedLow : Format → Nat
  | .n | .k | .u => 0
  | .q | .y => 1
  | .s => 2
  | .l => 4

/-- How many reserved bits a format has: in every format they stand side by side (R65). -/
def reservedWidth : Format → Nat
  | .n => 11
  | .q | .y => 10
  | .s => 9
  | .l | .u => 7
  | .k => 8

theorem reservedMask_toNat (f : Format) :
    f.reservedMask.toNat = (2 ^ reservedWidth f - 1) <<< reservedLow f := by
  cases f <;> rfl

/-- Masking a block of `k` bits from bit `lo` on leaves that block in its place. -/
theorem and_block_eq (x lo k : Nat) :
    x &&& (2 ^ k - 1) <<< lo = (x / 2 ^ lo % 2 ^ k) * 2 ^ lo := by
  rw [← Nat.and_two_pow_sub_one_eq_mod, ← Nat.shiftRight_eq_div_pow, ← Nat.shiftLeft_eq]
  apply Nat.eq_of_testBit_eq
  intro i
  simp only [Nat.testBit_and, Nat.testBit_shiftLeft, Nat.testBit_shiftRight]
  by_cases hi : lo ≤ i
  · simp [hi]
  · simp [hi]

theorem and_reservedMask_eq_zero_iff (cmd : CmdWord) (f : Format) :
    cmd &&& f.reservedMask = 0 ↔
      cmd.toNat / 2 ^ reservedLow f % 2 ^ reservedWidth f = 0 := by
  rw [← BitVec.toNat_inj, BitVec.toNat_and, reservedMask_toNat, and_block_eq]
  simp

/-! ## Each reason of R69 -/

theorem decodeIdDec_eq_illegal_iff (cmd : CmdWord) (data : DataWord) (why : Illegal) :
    decodeIdDec cmd data = .illegal why ↔ cmd.toNat % 4 = 3 ∧ why = .idDecSource3 := by
  have hsrc : (cmd.extractLsb' 0 2).toNat = cmd.toNat % 4 := BitVec.extractLsb'_toNat 0 2 cmd
  unfold decodeIdDec
  rw [hsrc]
  split
  next h => simp [h]
  next h => simp [h]
  next h => simp [h]
  next h0 h1 h2 =>
    simp only [imp_false] at h0 h1 h2
    have h3 : cmd.toNat % 4 = 3 := by omega
    simp [h3, eq_comm]

theorem decodeFields_eq_illegal_iff (o : Opcode) (cmd : CmdWord) (data : DataWord)
    (why : Illegal) :
    decodeFields o cmd data = .illegal why ↔
      o = .idDec ∧ cmd.toNat % 4 = 3 ∧ why = .idDecSource3 := by
  cases o with
  | idDec => simpa [decodeFields] using decodeIdDec_eq_illegal_iff cmd data why
  | _ => simp [decodeFields]

theorem decode_eq_reservedOpcode_iff (cmd : CmdWord) (data : DataWord) :
    decode cmd data = .illegal .reservedOpcode ↔ opcodeOfBits (opcField cmd) = none := by
  rcases decode_cases cmd data with ⟨h, hd⟩ | ⟨o, h, hb, hd⟩ | ⟨o, h, hb, hd⟩
  · simp [h, hd]
  · simp [h, hd]
  · simp [h, hd, decodeFields_eq_illegal_iff]

theorem decode_eq_reservedBit_iff (cmd : CmdWord) (data : DataWord) :
    decode cmd data = .illegal .reservedBit ↔
      ∃ o, opcodeOfBits (opcField cmd) = some o ∧ cmd &&& o.format.reservedMask ≠ 0 := by
  rcases decode_cases cmd data with ⟨h, hd⟩ | ⟨o, h, hb, hd⟩ | ⟨o, h, hb, hd⟩
  · simp [h, hd]
  · simpa [h, hd] using hb
  · simp [h, hd, hb, decodeFields_eq_illegal_iff]

/-- The word ID_DEC with SRC = 3, its other bits being OPC and reserved bits. -/
theorem eq_idDecSource3_iff (cmd : CmdWord) :
    cmd = 0x1003 ↔
      opcField cmd = Opcode.idDec.bits ∧ cmd &&& Opcode.idDec.format.reservedMask = 0 ∧
        cmd.toNat % 4 = 3 := by
  have hcmd : cmd = 0x1003 ↔ cmd.toNat = 4099 := BitVec.toNat_inj.symm
  have hopc : opcField cmd = Opcode.idDec.bits ↔ cmd.toNat / 2048 = 2 := by
    rw [← opcField_toNat]; exact BitVec.toNat_inj.symm
  have hclear : cmd &&& Opcode.idDec.format.reservedMask = 0 ↔ cmd.toNat / 4 % 512 = 0 :=
    and_reservedMask_eq_zero_iff cmd .s
  rw [hcmd, hopc, hclear]
  omega

theorem decode_eq_idDecSource3_iff (cmd : CmdWord) (data : DataWord) :
    decode cmd data = .illegal .idDecSource3 ↔ cmd = 0x1003 := by
  rw [eq_idDecSource3_iff, ← opcodeOfBits_eq_some_iff]
  rcases decode_cases cmd data with ⟨h, hd⟩ | ⟨o, h, hb, hd⟩ | ⟨o, h, hb, hd⟩
  · simp [h, hd]
  · simp only [h, hd, Decoded.illegal.injEq, reduceCtorEq, Option.some.injEq, false_iff]
    rintro ⟨rfl, hclear, -⟩
    exact hb hclear
  · rw [hd, h, decodeFields_eq_illegal_iff, Option.some.injEq]
    constructor
    · rintro ⟨rfl, hsrc, -⟩
      exact ⟨rfl, hb, hsrc⟩
    · rintro ⟨rfl, -, hsrc⟩
      exact ⟨rfl, hsrc, rfl⟩

/-- The second reason of R69 in the words of the table. -/
theorem exists_reservedBit_iff_exists_row (cmd : CmdWord) :
    (∃ o, opcodeOfBits (opcField cmd) = some o ∧ cmd &&& o.format.reservedMask ≠ 0) ↔
      ∃ row ∈ opcodeTable, cmd.toNat / 2048 = row.pattern.toNat / 2048 ∧
        cmd &&& row.mask ≠ row.pattern := by
  rw [exists_row_iff]
  refine exists_congr fun o => ?_
  have hopc : opcodeOfBits (opcField cmd) = some o ↔
      cmd.toNat / 2048 = (rowOf o).pattern.toNat / 2048 := by
    rw [opcodeOfBits_eq_some_iff, rowOf_pattern_toNat, Nat.mul_div_cancel_left _ (by decide),
      ← opcField_toNat, BitVec.toNat_inj]
  rw [← hopc]
  refine and_congr_right fun h => ?_
  rw [ne_eq, ne_eq, matches_rowOf_iff ((opcodeOfBits_eq_some_iff _ _).1 h)]

/-! ## The legal words, counted -/

/-- A word is legal exactly where none of the three reasons applies. -/
theorem legalWord_iff (cmd : CmdWord) :
    legalWord cmd = true ↔
      (∃ o : Opcode, opcField cmd = o.bits ∧ cmd &&& o.format.reservedMask = 0) ∧
        cmd ≠ 0x1003 := by
  simp only [← opcodeOfBits_eq_some_iff]
  rw [ne_eq, ← decode_eq_idDecSource3_iff cmd 0, legalWord]
  rcases decode_cases cmd 0 with ⟨h, hd⟩ | ⟨o, h, hb, hd⟩ | ⟨o, h, hb, hd⟩ <;> rw [hd]
  · simp [h]
  · simpa [h] using hb
  · cases hf : decodeFields o cmd 0 with
    | op i => simpa [h] using hb
    | illegal why =>
      obtain ⟨-, -, rfl⟩ := (decodeFields_eq_illegal_iff o cmd 0 why).1 hf
      simp

/-- The values of cmd[10:0] that a format allows: its free field, every other bit 0 (R65). -/
def freeValues : Format → List Nat
  | .n => [0]
  | .q | .y => List.range 2
  | .s => List.range 4
  | .l => List.range 16
  | .k => (List.range 8).map (256 * ·)
  | .u => (List.range 16).map (128 * ·)

theorem mem_map_mul_range_iff {m : Nat} (hm : 0 < m) (k n : Nat) :
    n ∈ (List.range k).map (m * ·) ↔ n % m = 0 ∧ n / m < k := by
  simp only [List.mem_map, List.mem_range]
  constructor
  · rintro ⟨v, hv, rfl⟩
    exact ⟨Nat.mul_mod_right m v, by rwa [Nat.mul_div_cancel_left v hm]⟩
  · rintro ⟨hmod, hdiv⟩
    exact ⟨n / m, hdiv, Nat.mul_div_cancel' (Nat.dvd_of_mod_eq_zero hmod)⟩

theorem mem_freeValues_iff (cmd : CmdWord) (f : Format) :
    cmd.toNat % 2048 ∈ freeValues f ↔ cmd &&& f.reservedMask = 0 := by
  rw [and_reservedMask_eq_zero_iff]
  cases f with
  | n | q | s | l | y =>
    simp only [freeValues, reservedLow, reservedWidth, List.mem_range, List.mem_singleton]
    omega
  | k | u =>
    rw [freeValues, reservedLow, reservedWidth, mem_map_mul_range_iff (by decide)]
    omega

theorem freeValues_lt (f : Format) : ∀ v ∈ freeValues f, v < 2048 := by
  cases f <;> decide

/-- The words of a row: its pattern with a free value in cmd[10:0]. -/
theorem exists_freeValue_iff (cmd : CmdWord) (o : Opcode) :
    (∃ v ∈ freeValues o.format, (rowOf o).pattern.toNat + v = cmd.toNat) ↔
      opcField cmd = o.bits ∧ cmd &&& o.format.reservedMask = 0 := by
  rw [← mem_freeValues_iff, ← BitVec.toNat_inj, opcField_toNat, rowOf_pattern_toNat]
  constructor
  · rintro ⟨v, hv, hcmd⟩
    have hlt := freeValues_lt _ v hv
    have hrest : cmd.toNat % 2048 = v := by omega
    exact ⟨by omega, hrest ▸ hv⟩
  · rintro ⟨hopc, hv⟩
    exact ⟨_, hv, by omega⟩

/-- The legal words as numbers: the words of every row of the table (R65, R67), less ID_DEC with
SRC = 3 (R68). -/
def legalNumbers : List Nat :=
  (opcodeTable.flatMap fun row =>
    (freeValues row.opcode.format).map (row.pattern.toNat + ·)).filter (· ≠ 0x1003)

theorem legalNumbers_length : legalNumbers.length = 180 := by decide +kernel

theorem legalNumbers_nodup : legalNumbers.Nodup := by
  have increasing : legalNumbers.IsChain (· < ·) := by decide +kernel
  exact (List.isChain_iff_pairwise.1 increasing).imp Nat.ne_of_lt

theorem toNat_mem_legalNumbers_iff (cmd : CmdWord) :
    cmd.toNat ∈ legalNumbers ↔ legalWord cmd = true := by
  have hsource3 : cmd.toNat ≠ 0x1003 ↔ cmd ≠ 0x1003 :=
    not_congr (BitVec.toNat_inj (x := cmd) (y := 0x1003))
  have hrows : (∃ row ∈ opcodeTable, ∃ v ∈ freeValues row.opcode.format,
      row.pattern.toNat + v = cmd.toNat) ↔
        ∃ o : Opcode, opcField cmd = o.bits ∧ cmd &&& o.format.reservedMask = 0 := by
    rw [exists_row_iff]
    exact exists_congr (exists_freeValue_iff cmd)
  simp only [legalNumbers, List.mem_filter, List.mem_flatMap, List.mem_map, decide_eq_true_eq,
    hrows, hsource3, legalWord_iff]

theorem legalNumbers_lt : ∀ n ∈ legalNumbers, n < 65536 := by decide +kernel

theorem mem_legalNumbers_iff (n : Nat) :
    n ∈ legalNumbers ↔ n < 65536 ∧ legalWord (BitVec.ofNat 16 n) = true := by
  have hword (hn : n < 65536) : n ∈ legalNumbers ↔ legalWord (BitVec.ofNat 16 n) = true := by
    rw [← toNat_mem_legalNumbers_iff, BitVec.toNat_ofNat, Nat.mod_eq_of_lt hn]
  exact ⟨fun h => ⟨legalNumbers_lt n h, (hword (legalNumbers_lt n h)).1 h⟩,
    fun ⟨hn, h⟩ => (hword hn).2 h⟩

theorem legal_count :
    ((List.range 65536).filter fun n => legalWord (BitVec.ofNat 16 n)).length = 180 := by
  have same : ((List.range 65536).filter fun n => legalWord (BitVec.ofNat 16 n)).Perm
      legalNumbers := by
    rw [List.perm_ext_iff_of_nodup (List.nodup_range.filter _) legalNumbers_nodup]
    intro n
    rw [mem_legalNumbers_iff, List.mem_filter, List.mem_range]
  rw [same.length_eq, legalNumbers_length]

/-- Stated for any list, so that no check ever evaluates the list of all the words. -/
theorem length_filter_not {α : Type} {l : List α} {p : α → Bool} {m k : Nat}
    (hl : l.length = m + k) (hp : (l.filter p).length = m) :
    (l.filter fun x => !p x).length = k := by
  have total := List.length_eq_length_filter_add (l := l) p
  omega

theorem illegal_count :
    ((List.range 65536).filter fun n => !legalWord (BitVec.ofNat 16 n)).length = 65356 :=
  length_filter_not List.length_range legal_count

/-- Settles O9: each reason by the branch of the decoder that gives it, and the legal words counted
as a list of numbers without repetition. -/
theorem legalWordsAreOneHundredEighty : Obligations.LegalWordsAreOneHundredEighty := by
  unfold Obligations.LegalWordsAreOneHundredEighty
  refine ⟨fun cmd data => ⟨?_, ?_, decode_eq_idDecSource3_iff cmd data⟩, legal_count,
    illegal_count⟩
  · rw [decode_eq_reservedOpcode_iff, opcodeOfBits_eq_none_iff, opcField_toNat, reservedOpcodes]
  · rw [decode_eq_reservedBit_iff, exists_reservedBit_iff_exists_row]

end Sys2Proof.Proofs

/-! Composing an arbitration identifier (30_encoding.md R60, R61). -/

namespace Sys2Proof.Proofs

open Sys2Proof.Machine

/-- R60 as arithmetic: the two fields never overlap. -/
theorem composeId_toNat {axis cid : Nat} (ha : axis ≤ 63) (hc : cid ≤ 31) :
    (composeId axis cid).toNat = 32 * axis + cid := by
  have disjoint : axis <<< 5 ||| cid = axis <<< 5 + cid :=
    (Nat.shiftLeft_add_eq_or_of_lt (show cid < 2 ^ 5 by omega) axis).symm
  rw [composeId, BitVec.toNat_append, BitVec.toNat_ofNat, BitVec.toNat_ofNat,
    Nat.mod_eq_of_lt (show axis < 2 ^ 6 by omega), Nat.mod_eq_of_lt (show cid < 2 ^ 5 by omega),
    disjoint, Nat.shiftLeft_eq]
  omega

/-- An identifier is composed of its own two fields. -/
theorem composeId_fields (id : CanId) :
    composeId (id.extractLsb' 5 6).toNat (id.extractLsb' 0 5).toNat = id := by
  rw [composeId, BitVec.ofNat_toNat, BitVec.ofNat_toNat, BitVec.setWidth_eq, BitVec.setWidth_eq,
    BitVec.extractLsb'_append_extractLsb'_eq_extractLsb' (by decide), BitVec.extractLsb'_eq_self]

theorem composeId_inj {axis cid axis' cid' : Nat} (ha : axis ≤ 63) (hc : cid ≤ 31)
    (ha' : axis' ≤ 63) (hc' : cid' ≤ 31) (h : composeId axis cid = composeId axis' cid') :
    axis = axis' ∧ cid = cid' := by
  have hnat := congrArg BitVec.toNat h
  rw [composeId_toNat ha hc, composeId_toNat ha' hc'] at hnat
  omega

/-- ID_ENC of a pair in range passes both checks of R61 and writes the header. -/
theorem exec_idEnc_in_range (s : State) (q : Bool) {axis cid : Nat} (ha : axis ≤ 63)
    (hc : cid ≤ 31) :
    exec (.idEnc q axis cid) s = .next ((s.setHeader (composeId axis cid) q).complete .ok) := by
  show execIdEnc q axis cid s = _
  rw [execIdEnc, if_neg (Nat.not_lt.2 ha), if_neg (Nat.not_lt.2 hc), succeed_eq]

theorem idEnc_leaves_frameId_iff (s : State) (q : Bool) {axis cid : Nat} (ha : axis ≤ 63)
    (hc : cid ≤ 31) (id : CanId) :
    (∃ t, exec (.idEnc q axis cid) s = .next t ∧ t.frameId = id) ↔ composeId axis cid = id := by
  rw [exec_idEnc_in_range s q ha hc]
  simp

/-- Settles O13: the pair of an identifier is its two fields, and no other pair composes it. -/
theorem everyIdHasExactlyOneAxisAndCommand : Obligations.EveryIdHasExactlyOneAxisAndCommand := by
  unfold Obligations.EveryIdHasExactlyOneAxisAndCommand
  constructor
  · intro s q axis cid ha hc
    exact ⟨_, exec_idEnc_in_range s q ha hc, composeId_toNat ha hc⟩
  · intro s q id
    have ha : (id.extractLsb' 5 6).toNat ≤ 63 := Nat.le_of_lt_succ (id.extractLsb' 5 6).isLt
    have hc : (id.extractLsb' 0 5).toNat ≤ 31 := Nat.le_of_lt_succ (id.extractLsb' 0 5).isLt
    refine ⟨_, _, ⟨ha, hc, (idEnc_leaves_frameId_iff s q ha hc id).2 (composeId_fields id)⟩,
      by rw [BitVec.ofNat_toNat, BitVec.setWidth_eq],
      by rw [BitVec.ofNat_toNat, BitVec.setWidth_eq], ?_⟩
    intro axis' cid' ha' hc' left
    have composed : composeId axis' cid' = id := (idEnc_leaves_frameId_iff s q ha' hc' id).1 left
    exact composeId_inj ha' hc' ha hc (composed.trans (composeId_fields id).symm)

end Sys2Proof.Proofs

/-! The frame and ID operations (40_frame.md R74 to R78), and how frames compose. -/

namespace Sys2Proof.Proofs

open Sys2Proof.Machine Sys2Proof.Safety

/-! ## Frames -/

theorem same_trans {r : Reg} {s t u : State} (hst : r.same s t) (htu : r.same t u) :
    r.same s u := by
  cases r with
  | txBuf | rxBuf => exact fun a => (htu a).trans (hst a)
  | _ => exact Eq.trans htu hst

theorem onlyChanges_trans {as bs : List Reg} {s t u : State} (hst : onlyChanges as s t)
    (htu : onlyChanges bs t u) : onlyChanges (as ++ bs) s u := by
  intro r hr
  have ha : r ∉ as := fun h => hr (List.mem_append_left bs h)
  have hb : r ∉ bs := fun h => hr (List.mem_append_right as h)
  exact same_trans (hst r ha) (htu r hb)

theorem onlyChanges_setHeader (s : State) (id : CanId) (rtr : Bool) :
    onlyChanges [.frameId, .frameRtr, .frameValid] s (s.setHeader id rtr) := by
  intro r hr
  cases r with
  | frameId | frameRtr | frameValid => exact absurd (by decide) hr
  | txBuf | rxBuf => exact fun _ => rfl
  | _ => rfl

theorem onlyChanges_setDlc (s : State) (len : BitVec 4) :
    onlyChanges [.frameDlc] s (s.setDlc len) := by
  intro r hr
  cases r with
  | frameDlc => exact absurd (by decide) hr
  | txBuf | rxBuf => exact fun _ => rfl
  | _ => rfl

theorem onlyChanges_setTxBuf (s : State) (m : Memory) :
    onlyChanges [.txBuf] s (s.setTxBuf m) := by
  intro r hr
  cases r with
  | txBuf => exact absurd (by decide) hr
  | rxBuf => exact fun _ => rfl
  | _ => rfl

theorem onlyChanges_setResult (s : State) (v : DataWord) :
    onlyChanges [.result] s (s.setResult v) := by
  intro r hr
  cases r with
  | result => exact absurd (by decide) hr
  | txBuf | rxBuf => exact fun _ => rfl
  | _ => rfl

/-- The shape of every failure: an operation that ends in a completion of the state it began in
writes nothing else (00_scope.md R12). -/
theorem only_completes {i : Instr} {s : State} {c : Code} (h : exec i s = .next (s.complete c)) :
    ∃ t, exec i s = .next t ∧ completed t c ∧ onlyChanges completionRegs s t :=
  ⟨_, h, completed_complete s c, onlyChanges_complete s c⟩

/-! ## Identifiers -/

theorem shiftLeft_or_eq {k low : Nat} (h : low < 2 ^ k) (high : Nat) :
    high <<< k ||| low = high * 2 ^ k + low := by
  rw [← Nat.shiftLeft_add_eq_or_of_lt h, Nat.shiftLeft_eq]

/-- The composed identifier in the words of R75. -/
theorem composeId_eq_ofNat {axis cid : Nat} (ha : axis ≤ 63) (hc : cid ≤ 31) :
    composeId axis cid = BitVec.ofNat 11 (axis <<< 5 ||| cid) := by
  have hnat : (composeId axis cid).toNat = axis <<< 5 ||| cid := by
    rw [composeId_toNat ha hc, shiftLeft_or_eq (show cid < 2 ^ 5 by omega)]
    omega
  rw [← hnat, BitVec.ofNat_toNat, BitVec.setWidth_eq]

/-- The layout of RESULT in R76 as arithmetic. -/
theorem decomposeId_toNat (id : CanId) :
    (decomposeId id).toNat = id.toNat / 32 * 65536 + id.toNat % 32 := by
  have hid := id.isLt
  have haxis : ((id.extractLsb' 5 6).setWidth 16).toNat = id.toNat / 32 := by
    rw [BitVec.toNat_setWidth, BitVec.extractLsb'_toNat, Nat.shiftRight_eq_div_pow]
    omega
  have hcid : ((id.extractLsb' 0 5).setWidth 16).toNat = id.toNat % 32 := by
    rw [BitVec.toNat_setWidth, BitVec.extractLsb'_toNat, Nat.shiftRight_zero]
    omega
  rw [decomposeId, BitVec.toNat_append, haxis, hcid,
    shiftLeft_or_eq (show id.toNat % 32 < 2 ^ 16 by omega), show 2 ^ 16 = 65536 from rfl]

/-- The layout of RESULT is the layout of the operand of ID_ENC (R76). -/
theorem decomposeId_composeId {axis cid : Nat} (ha : axis ≤ 63) (hc : cid ≤ 31) :
    decomposeId (composeId axis cid) = BitVec.ofNat 32 (axis <<< 16 ||| cid) := by
  have hnat : (decomposeId (composeId axis cid)).toNat = axis <<< 16 ||| cid := by
    rw [decomposeId_toNat, composeId_toNat ha hc, shiftLeft_or_eq (show cid < 2 ^ 16 by omega)]
    omega
  rw [← hnat, BitVec.ofNat_toNat, BitVec.setWidth_eq]

/-! ## ID_DEC -/

/-- The bits above an identifier are 0 exactly in the operands that are one. -/
theorem extractLsb'_above_id_eq_zero_iff (v : DataWord) :
    v.extractLsb' 11 21 = 0 ↔ v.toNat ≤ 0x7FF := by
  have hv := v.isLt
  rw [← BitVec.toNat_inj, BitVec.extractLsb'_toNat, Nat.shiftRight_eq_div_pow]
  show v.toNat / 2 ^ 11 % 2 ^ 21 = 0 ↔ _
  omega

theorem exec_idDec_above_id (s : State) {v : DataWord} (hv : 0x7FF < v.toNat) :
    exec (.idDec (.value v)) s = .next (s.complete .errId) :=
  if_pos fun h => Nat.not_le.2 hv ((extractLsb'_above_id_eq_zero_iff v).1 h)

/-- The state in which ID_DEC of an identifier completes (R76). -/
def afterIdDec (s : State) (id : CanId) : State := (s.setResult (decomposeId id)).complete .ok

theorem afterIdDec_result_toNat (s : State) (id : CanId) :
    (afterIdDec s id).result.toNat = id.toNat / 32 * 65536 + id.toNat % 32 :=
  decomposeId_toNat id

theorem onlyChanges_afterIdDec (s : State) (id : CanId) :
    onlyChanges (.result :: completionRegs) s (afterIdDec s id) :=
  onlyChanges_trans (onlyChanges_setResult s _) (onlyChanges_complete _ _)

theorem exec_idDec_value (s : State) {v : DataWord} (hv : v.toNat ≤ 0x7FF) :
    exec (.idDec (.value v)) s = .next (afterIdDec s (v.extractLsb' 0 11)) :=
  if_neg (not_not.2 ((extractLsb'_above_id_eq_zero_iff v).2 hv))

theorem exec_idDec_rx (s : State) : exec (.idDec .rx) s = .next (afterIdDec s s.rxId) := rfl

theorem exec_idDec_frame (s : State) :
    exec (.idDec .frame) s = .next (afterIdDec s s.frameId) := rfl

/-- The three sources of R76: each names an identifier, and ID_DEC decomposes it. -/
theorem exec_idDec_of_source {s : State} {src : IdSrc} {n : Nat}
    (h : (src = .rx ∧ n = s.rxId.toNat) ∨ (src = .frame ∧ n = s.frameId.toNat) ∨
      (∃ v : DataWord, src = .value v ∧ n = v.toNat ∧ v.toNat ≤ 0x7FF)) :
    ∃ id : CanId, id.toNat = n ∧ exec (.idDec src) s = .next (afterIdDec s id) := by
  obtain ⟨rfl, rfl⟩ | ⟨rfl, rfl⟩ | ⟨v, rfl, rfl, hv⟩ := h
  · exact ⟨s.rxId, rfl, exec_idDec_rx s⟩
  · exact ⟨s.frameId, rfl, exec_idDec_frame s⟩
  · refine ⟨v.extractLsb' 0 11, ?_, exec_idDec_value s hv⟩
    rw [BitVec.extractLsb'_toNat, Nat.shiftRight_zero]
    omega

/-- Settles O14: each source names an identifier that `decomposeId` lays out, and `decomposeId`
undoes `composeId`. -/
theorem idDecDecomposesOrRejects : Obligations.IdDecDecomposesOrRejects := by
  unfold Obligations.IdDecDecomposesOrRejects
  refine ⟨fun d => ⟨?_, ?_, ?_, (decode_eq_idDecSource3_iff 0x1003 d).2 rfl⟩,
    fun s v hv => only_completes (exec_idDec_above_id s hv), ?_, ?_⟩
  · exact decode_fields 0x1000 d .idDec (by decide) (by decide)
  · exact decode_fields 0x1001 d .idDec (by decide) (by decide)
  · exact decode_fields 0x1002 d .idDec (by decide) (by decide)
  · intro s src n hsrc
    obtain ⟨id, rfl, hexec⟩ := exec_idDec_of_source hsrc
    exact ⟨_, hexec, completed_complete _ _, afterIdDec_result_toNat s id,
      onlyChanges_afterIdDec s id⟩
  · intro s q axis cid ha hc
    exact ⟨_, _, exec_idEnc_in_range s q ha hc, exec_idDec_frame _, decomposeId_composeId ha hc⟩

/-! ## NOP -/

theorem exec_nop (s : State) : exec .nop s = .next (s.complete .ok) := rfl

/-- Only the all-zero word of opcode 0 has its reserved bits clear: format N has no operand. -/
theorem decode_opcode_zero_of_ne_zero {cmd : CmdWord} (hopc : cmd.toNat / 2048 = 0)
    (hcmd : cmd ≠ 0) (d : DataWord) : decode cmd d = .illegal .reservedBit := by
  have hnop : opcField cmd = Opcode.nop.bits :=
    BitVec.eq_of_toNat_eq ((opcField_toNat cmd).trans hopc)
  refine decode_reservedBit cmd d .nop ((opcodeOfBits_eq_some_iff _ _).2 hnop) fun hclear => ?_
  have hlow : cmd.toNat / 1 % 2048 = 0 := (and_reservedMask_eq_zero_iff cmd .n).1 hclear
  exact hcmd (BitVec.eq_of_toNat_eq (show cmd.toNat = 0 by omega))

/-- Settles O11: the reserved bits of format N are the whole of cmd[10:0], and NOP is nothing but
its completion. -/
theorem nopOnlyCompletes : Obligations.NopOnlyCompletes := by
  unfold Obligations.NopOnlyCompletes
  exact ⟨fun d => decode_fields 0x0000 d .nop (by decide) (by decide),
    fun _ d hopc hcmd => decode_opcode_zero_of_ne_zero hopc hcmd d,
    fun s => only_completes (exec_nop s)⟩

/-! ## ID_ENC -/

theorem exec_idEnc_axis_above (s : State) (q : Bool) {axis : Nat} (cid : Nat) (ha : 63 < axis) :
    exec (.idEnc q axis cid) s = .next (s.complete .errAxis) :=
  if_pos ha

theorem exec_idEnc_command_above (s : State) (q : Bool) {axis cid : Nat} (ha : axis ≤ 63)
    (hc : 31 < cid) : exec (.idEnc q axis cid) s = .next (s.complete .errCmd) := by
  show execIdEnc q axis cid s = _
  rw [execIdEnc, if_neg (Nat.not_lt.2 ha), if_pos hc, raise_eq]

theorem decode_idEnc (q : Bool) (d : DataWord) :
    decode (if q then 0x0801 else 0x0800) d =
      .op (.idEnc q (d.toNat / 65536) (d.toNat % 65536)) := by
  rw [← highHalf_eq, ← lowHalf_eq]
  cases q with
  | false => exact decode_fields 0x0800 d .idEnc (by decide) (by decide)
  | true => exact decode_fields 0x0801 d .idEnc (by decide) (by decide)

/-- Settles O12: the two checks in their order (60_exceptions.md R114), then the header. -/
theorem idEncComposesOrRejects : Obligations.IdEncComposesOrRejects := by
  unfold Obligations.IdEncComposesOrRejects
  refine ⟨decode_idEnc, fun s q axis cid =>
    ⟨fun ha => only_completes (exec_idEnc_axis_above s q cid ha),
      fun ha hc => only_completes (exec_idEnc_command_above s q ha hc), fun ha hc => ?_⟩⟩
  have frame := onlyChanges_trans (onlyChanges_setHeader s (composeId axis cid) q)
    (onlyChanges_complete _ .ok)
  exact ⟨_, exec_idEnc_in_range s q ha hc, completed_complete _ _, composeId_eq_ofNat ha hc, rfl,
    rfl, frame⟩

/-! ## BUF_CLR -/

theorem exec_bufClr (s : State) :
    exec .bufClr s = .next (((s.setTxBuf Memory.zeroed).setDlc 0).complete .ok) := rfl

/-- Settles O15: the payload and its length are the two updates before the completion. -/
theorem bufClrEmptiesThePayload : Obligations.BufClrEmptiesThePayload := by
  unfold Obligations.BufClrEmptiesThePayload
  refine ⟨fun d => decode_fields 0x1800 d .bufClr (by decide) (by decide), fun s => ?_⟩
  have payload := onlyChanges_trans (onlyChanges_setTxBuf s Memory.zeroed) (onlyChanges_setDlc _ 0)
  exact ⟨_, exec_bufClr s, completed_complete _ _, Memory.readByte_zeroed, rfl,
    onlyChanges_trans payload (onlyChanges_complete _ .ok)⟩

/-! ## SET_DLC -/

theorem exec_setDlc_above (s : State) {len : Nat} (h : 8 < len) :
    exec (.setDlc len) s = .next (s.complete .errDlc) :=
  if_pos h

theorem exec_setDlc_in_range (s : State) {len : Nat} (h : len ≤ 8) :
    exec (.setDlc len) s = .next ((s.setDlc (BitVec.ofNat 4 len)).complete .ok) :=
  if_neg (Nat.not_lt.2 h)

/-- The fields of the 16 words of SET_DLC (30_encoding.md R65). -/
theorem setDlc_word_fields : ∀ len < 16,
    opcodeOfBits (opcField (BitVec.ofNat 16 (0x2000 ||| len))) = some .setDlc ∧
      BitVec.ofNat 16 (0x2000 ||| len) &&& Opcode.setDlc.format.reservedMask = 0 ∧
      lenField (BitVec.ofNat 16 (0x2000 ||| len)) = len := by
  decide

theorem decode_setDlc {len : Nat} (h : len < 16) (d : DataWord) :
    decode (BitVec.ofNat 16 (0x2000 ||| len)) d = .op (.setDlc len) := by
  obtain ⟨hopc, hclear, hlen⟩ := setDlc_word_fields len h
  rw [decode_fields _ d .setDlc hopc hclear, decodeFields, hlen]

/-- Settles O16: one check, and a length that passes it fits the 4 bits of FRAME_DLC. -/
theorem setDlcSetsTheLengthOrRejects : Obligations.SetDlcSetsTheLengthOrRejects := by
  unfold Obligations.SetDlcSetsTheLengthOrRejects
  refine ⟨fun len d h => decode_setDlc h d, fun s len =>
    ⟨fun h => only_completes (exec_setDlc_above s h), fun h => ?_⟩⟩
  have hlen : (BitVec.ofNat 4 len).toNat = len :=
    BitVec.toNat_ofNat len 4 ▸ Nat.mod_eq_of_lt (show len < 2 ^ 4 by omega)
  exact ⟨_, exec_setDlc_in_range s h, completed_complete _ _, hlen,
    onlyChanges_trans (onlyChanges_setDlc s _) (onlyChanges_complete _ .ok)⟩

end Sys2Proof.Proofs

/-! The PACK operations (41_pack.md R79 to R86). -/

namespace Sys2Proof.Proofs

open Sys2Proof.Machine Sys2Proof.Safety

/-! ## Command words with an offset -/

theorem offField_toNat (cmd : CmdWord) : offField cmd = cmd.toNat / 256 % 8 := by
  rw [offField, BitVec.extractLsb'_toNat, Nat.shiftRight_eq_div_pow]

/-- A word of an opcode's row, written as the row's pattern plus a free value, reads its fields. -/
theorem decode_of_freeValue {cmd : CmdWord} {o : Opcode} {v : Nat} (hv : v ∈ freeValues o.format)
    (hcmd : cmd.toNat = 2048 * o.bits.toNat + v) (d : DataWord) :
    decode cmd d = decodeFields o cmd d := by
  obtain ⟨hopc, hclear⟩ :=
    (exists_freeValue_iff cmd o).1 ⟨v, hv, by rw [rowOf_pattern_toNat, hcmd]⟩
  exact decode_fields cmd d o ((opcodeOfBits_eq_some_iff _ _).2 hopc) hclear

/-- The two fields of a word of format K never overlap (30_encoding.md R65). -/
theorem pack_word_toNat (opc : BitVec 5) {off : Nat} (h : off < 8) :
    (BitVec.ofNat 16 (opc.toNat <<< 11 ||| off <<< 8)).toNat = 2048 * opc.toNat + 256 * off := by
  have hopc := opc.isLt
  have hoff : off <<< 8 = 256 * off := by rw [Nat.shiftLeft_eq, Nat.mul_comm]
  rw [hoff, shiftLeft_or_eq (show 256 * off < 2 ^ 11 by omega), BitVec.toNat_ofNat]
  omega

/-- A word of format K decodes to its operation at the offset it names, `mk` being the constructor
that the opcode reads its operands into. -/
theorem decode_pack_word {o : Opcode} {mk : Nat → DataWord → Instr} (hk : o.format = .k)
    (hmk : ∀ cmd d, decodeFields o cmd d = .op (mk (offField cmd) d)) {off : Nat} (h : off < 8)
    (d : DataWord) :
    decode (BitVec.ofNat 16 (o.bits.toNat <<< 11 ||| off <<< 8)) d = .op (mk off d) := by
  have hword := pack_word_toNat o.bits h
  have hfree : 256 * off ∈ freeValues o.format := by
    rw [hk]
    exact List.mem_map_of_mem (List.mem_range.2 h)
  have hoff : offField (BitVec.ofNat 16 (o.bits.toNat <<< 11 ||| off <<< 8)) = off := by
    rw [offField_toNat, hword]
    omega
  rw [decode_of_freeValue hfree hword d, hmk, hoff]

/-! ## Stores -/

/-- Writing a field stores the bytes of its value and no other byte (20_memory.md R43). -/
theorem storesBytes_writeLE {w : Nat} (m : Memory) (off n : Nat) (v : BitVec w) :
    storesBytes m (m.writeLE off n v.toNat) off n v :=
  ⟨fun k hk => (Memory.readByte_writeLE_inside n m off v.toNat k hk).trans (byte_of_toNat v k),
    fun a ha => Memory.readByte_writeLE_outside n m off v.toNat a ha⟩

/-- The low `n` bytes of a value are the bytes of its low `8 * n` bits. -/
theorem extractLsb'_byte_of_low {w : Nat} (v : BitVec w) {k n : Nat} (hk : k < n) :
    (v.extractLsb' 0 (8 * n)).extractLsb' (8 * k) 8 = v.extractLsb' (8 * k) 8 := by
  rw [BitVec.extractLsb'_extractLsb'_of_le (by omega)]

/-- Storing the low `n` bytes of a value is storing `n` bytes of the value. -/
theorem storesBytes_of_low {w : Nat} {m m' : Memory} {off n : Nat} {v : BitVec w}
    (h : storesBytes m m' off n (v.extractLsb' 0 (8 * n))) : storesBytes m m' off n v :=
  ⟨fun k hk => (h.1 k hk).trans (extractLsb'_byte_of_low v hk), h.2⟩

/-- The state in which a PACK that stores `v` completes (41_pack.md, common operands). -/
def afterPack (s : State) (off n v : Nat) : State :=
  (s.setTxBuf (s.txBuf.writeLE off n v)).complete .ok

theorem onlyChanges_afterPack (s : State) (off n v : Nat) :
    onlyChanges (.txBuf :: completionRegs) s (afterPack s off n v) :=
  onlyChanges_trans (onlyChanges_setTxBuf s _) (onlyChanges_complete _ .ok)

/-- The shape of every PACK that succeeds: the bytes of `v` in the field, and nothing else but the
completion. -/
theorem packs_and_completes {i : Instr} {s : State} {off n w : Nat} {v : BitVec w}
    (h : exec i s = .next (afterPack s off n v.toNat)) :
    ∃ t, exec i s = .next t ∧ completed t .ok ∧ storesBytes s.txBuf t.txBuf off n v ∧
      onlyChanges (.txBuf :: completionRegs) s t :=
  ⟨_, h, completed_complete _ _, storesBytes_writeLE s.txBuf off n v,
    onlyChanges_afterPack s off n v.toNat⟩

/-- The shape of a PACK past the buffer (20_memory.md R47). -/
theorem only_completes_past_buffer {i : Instr} {off n : Nat} (h : fieldOf i = some (off, n))
    (past : 8 < off + n) (s : State) :
    ∃ t, exec i s = .next t ∧ completed t .errOffset ∧ onlyChanges completionRegs s t :=
  only_completes (exec_of_field_past_buffer h past s)

theorem packField_in_buffer {off n : Nat} (fits : off + n ≤ 8) (v : Nat) (s : State) :
    packField off n v s = .next (afterPack s off n v) := by
  rw [packField_eq, if_pos fits, afterPack]

/-! ## Plain fields -/

/-- An integer narrower than the data word is stored from its low bits (41_pack.md R79, R80). -/
theorem packs_low_bytes {i : Instr} {s : State} {off n : Nat} {v : DataWord}
    (h : exec i s = packField off n (v.extractLsb' 0 (8 * n)).toNat s) (fits : off + n ≤ 8) :
    ∃ t, exec i s = .next t ∧ completed t .ok ∧ storesBytes s.txBuf t.txBuf off n v ∧
      onlyChanges (.txBuf :: completionRegs) s t := by
  obtain ⟨t, hexec, hok, hbytes, hframe⟩ :=
    packs_and_completes (h.trans (packField_in_buffer fits _ s))
  exact ⟨t, hexec, hok, storesBytes_of_low hbytes, hframe⟩

/-- Settles O17: an offset that has an encoding leaves room for one byte. -/
theorem packU8StoresTheLowByte : Obligations.PackU8StoresTheLowByte := by
  unfold Obligations.PackU8StoresTheLowByte
  exact ⟨fun off d h => decode_pack_word (o := .packU8) rfl (fun _ _ => rfl) h d,
    fun s off v h => packs_low_bytes (n := 1) rfl h⟩

/-- Settles O18: the bounds check, then the low half of the data word. -/
theorem packI16StoresTheLowHalf : Obligations.PackI16StoresTheLowHalf := by
  unfold Obligations.PackI16StoresTheLowHalf
  exact ⟨fun off d h => decode_pack_word (o := .packI16) rfl (fun _ _ => rfl) h d,
    fun s off v => ⟨fun past => only_completes_past_buffer rfl past s,
      fun fits => packs_low_bytes (n := 2) rfl fits⟩⟩

/-- The three operations on a whole data word are one store (41_pack.md R81, R82, R83). -/
theorem packWord_eq {i : Instr} {off : Nat} {v : DataWord}
    (hi : i ∈ [Instr.packI32 off v, Instr.packU32 off v, Instr.packF32 off v]) :
    fieldOf i = some (off, 4) ∧ ∀ s, exec i s = packField off 4 v.toNat s := by
  simp only [List.mem_cons, List.not_mem_nil, or_false] at hi
  obtain rfl | rfl | rfl := hi
  · exact ⟨rfl, fun _ => rfl⟩
  · exact ⟨rfl, fun _ => rfl⟩
  · exact ⟨rfl, fun _ => rfl⟩

/-- Settles O19: the three operations are one store of four bytes, which fits up to offset 4. -/
theorem packWordStoresAllFourBytes : Obligations.PackWordStoresAllFourBytes := by
  unfold Obligations.PackWordStoresAllFourBytes
  refine ⟨fun off d h => ⟨?_, ?_, ?_⟩, fun s off v i hi => ?_⟩
  · exact decode_pack_word (o := .packI32) rfl (fun _ _ => rfl) h d
  · exact decode_pack_word (o := .packU32) rfl (fun _ _ => rfl) h d
  · exact decode_pack_word (o := .packF32) rfl (fun _ _ => rfl) h d
  · obtain ⟨hfield, hexec⟩ := packWord_eq hi
    exact ⟨fun past => only_completes_past_buffer hfield (Nat.add_lt_add_right past 4) s,
      fun fits => packs_and_completes
        ((hexec s).trans (packField_in_buffer (Nat.add_le_add_right fits 4) v.toNat s))⟩

/-! ## Scaled feed-forwards -/

theorem packScaled_out_of_range {off n : Nat} {x : DataWord} {s : State} (fits : off + n ≤ 8)
    (hx : ffscale s.cfg.ffMul x = none) :
    packScaled off n x s = .next (s.complete .errRange) := by
  rw [packScaled_eq, if_pos fits, hx]

theorem packScaled_in_range {off n : Nat} {x : DataWord} {s : State} {v : BitVec 16}
    (fits : off + n ≤ 8) (hx : ffscale s.cfg.ffMul x = some v) :
    packScaled off n x s = .next (afterPack s off n v.toNat) := by
  rw [packScaled_eq, if_pos fits, hx, afterPack]

/-- A value that the two modes scale alike scales so whatever the mode. -/
theorem ffscale_of_both_modes {x : DataWord} {r : Option (BitVec 16)}
    (h : ffscale .b32Rne x = r ∧ ffscale .exact x = r) (mode : FfMul) : ffscale mode x = r := by
  cases mode with
  | b32Rne => exact h.1
  | exact => exact h.2

/-- -2.5, the value R85 and R86 share. -/
theorem ffscale_neg_two_and_a_half (mode : FfMul) : ffscale mode 0xC0200000 = some 0xF63C :=
  ffscale_of_both_modes (by decide) mode

/-- Settles O24: the bounds check, the range check, then both bytes of the scaled value. -/
theorem packFf16StoresTheScaledValue : Obligations.PackFf16StoresTheScaledValue := by
  unfold Obligations.PackFf16StoresTheScaledValue
  refine ⟨fun off d h => decode_pack_word (o := .packFf16) rfl (fun _ _ => rfl) h d,
    fun s off x => ⟨fun past => only_completes_past_buffer rfl past s, ?_, ?_,
      ffscale_of_both_modes (by decide) _, ffscale_neg_two_and_a_half _⟩⟩
  · exact fun fits hx => only_completes (packScaled_out_of_range fits hx)
  · exact fun n fits hx => packs_and_completes (packScaled_in_range fits hx)

/-- Settles O25: the field is one byte, so the next byte stands outside it; the range check is the
one of PACK_FF16. -/
theorem packFf8StoresTheLowByteOnly : Obligations.PackFf8StoresTheLowByteOnly := by
  unfold Obligations.PackFf8StoresTheLowByteOnly
  refine ⟨fun off d h => decode_pack_word (o := .packFf8) rfl (fun _ _ => rfl) h d,
    fun s off x fits => ⟨?_, ?_, ffscale_of_both_modes (by decide) _,
      ffscale_of_both_modes (by decide) _, ffscale_neg_two_and_a_half _⟩⟩
  · exact fun hx => only_completes (packScaled_out_of_range fits hx)
  · intro n hx
    obtain ⟨t, hexec, hok, hbytes, hframe⟩ :=
      packs_and_completes (i := .packFf8 off x) (packScaled_in_range fits hx)
    have next_kept := hbytes.2 (off + 1) (.inr le_rfl)
    exact ⟨t, hexec, hok, hbytes, next_kept, hframe⟩

end Sys2Proof.Proofs

/-! The UNPACK operations (42_unpack.md R87 to R92). -/

namespace Sys2Proof.Proofs

open Sys2Proof.Machine Sys2Proof.Safety

/-! ## Command words with an offset and a buffer -/

/-- The bit B of a command word read as a number (42_unpack.md R87). -/
theorem bufField_eq_of_bit {cmd : CmdWord} {b : Buf} (h : cmd.toNat / 128 % 2 = b.bit.toNat) :
    bufField cmd = b := by
  have hbit : cmd.getLsbD 7 = decide (b.bit.toNat = 1) := by
    rw [BitVec.getLsbD, Nat.testBit_eq_decide_div_mod_eq, show 2 ^ 7 = 128 from rfl, h]
  rw [bufField, hbit]
  cases b <;> rfl

/-- The three fields of a word of format U never overlap (30_encoding.md R65). -/
theorem unpack_word_toNat (opc : BitVec 5) {off : Nat} (h : off < 8) (b : Buf) :
    (BitVec.ofNat 16 (opc.toNat <<< 11 ||| off <<< 8 ||| b.bit.toNat <<< 7)).toNat =
      2048 * opc.toNat + (256 * off + 128 * b.bit.toNat) := by
  have hopc := opc.isLt
  have hb : b.bit.toNat ≤ 1 := Bool.toNat_le b.bit
  have hbit : b.bit.toNat <<< 7 = 128 * b.bit.toNat := by rw [Nat.shiftLeft_eq, Nat.mul_comm]
  have hhigh : opc.toNat <<< 11 ||| off <<< 8 = (opc.toNat <<< 3 ||| off) <<< 8 := by
    rw [Nat.shiftLeft_or_distrib, ← Nat.shiftLeft_add]
  rw [hhigh, hbit, shiftLeft_or_eq (show 128 * b.bit.toNat < 2 ^ 8 by omega),
    shiftLeft_or_eq (show off < 2 ^ 3 by omega), BitVec.toNat_ofNat]
  omega

/-- A word of format U decodes to its operation at the offset and on the buffer it names, `mk` being
the constructor that the opcode reads its operands into. -/
theorem decode_unpack_word {o : Opcode} {mk : Nat → Buf → Instr} (hu : o.format = .u)
    (hmk : ∀ cmd d, decodeFields o cmd d = .op (mk (offField cmd) (bufField cmd))) {off : Nat}
    (h : off < 8) (b : Buf) (d : DataWord) :
    decode (BitVec.ofNat 16 (o.bits.toNat <<< 11 ||| off <<< 8 ||| b.bit.toNat <<< 7)) d =
      .op (mk off b) := by
  have hword := unpack_word_toNat o.bits h b
  have hb : b.bit.toNat ≤ 1 := Bool.toNat_le b.bit
  have hfree : 256 * off + 128 * b.bit.toNat ∈ freeValues o.format := by
    rw [hu]
    exact (mem_map_mul_range_iff (by decide) 16 _).2 ⟨by omega, by omega⟩
  rw [decode_of_freeValue hfree hword d, hmk, offField_toNat, hword,
    bufField_eq_of_bit (b := b) (by omega)]
  congr 2
  omega

/-- The words of an UNPACK as the rules write them, B = 0 and B = 1. -/
theorem decode_unpack_words {o : Opcode} {mk : Nat → Buf → Instr} (hu : o.format = .u)
    (hmk : ∀ cmd d, decodeFields o cmd d = .op (mk (offField cmd) (bufField cmd))) {off : Nat}
    (h : off < 8) (d : DataWord) :
    decode (BitVec.ofNat 16 (o.bits.toNat <<< 11 ||| off <<< 8)) d = .op (mk off .rx) ∧
      decode (BitVec.ofNat 16 (o.bits.toNat <<< 11 ||| off <<< 8 ||| 1 <<< 7)) d =
        .op (mk off .tx) := by
  have hrx := decode_unpack_word hu hmk h .rx d
  rw [Buf.bit, Bool.toNat_false, Nat.zero_shiftLeft, Nat.or_zero] at hrx
  exact ⟨hrx, decode_unpack_word hu hmk h .tx d⟩

/-! ## Reads -/

/-- A field that holds the bytes of a value reads as its unsigned integer (20_memory.md R43). -/
theorem readLE_of_holdsField {m : Memory} {off n : Nat} {v : BitVec (8 * n)}
    (h : holdsField m off n v) : m.readLE off n = v.toNat := by
  have bound : v.toNat < 256 ^ n := (pow_mul 2 8 n ▸ v.isLt : v.toNat < (2 ^ 8) ^ n)
  exact Memory.readLE_of_bytes n m off v.toNat bound
    fun k hk => (h k hk).trans (byte_of_toNat v k).symm

/-- The state in which an UNPACK that leaves `r` in RESULT completes (42_unpack.md R87). -/
def afterUnpack (s : State) (r : DataWord) : State := (s.setResult r).complete .ok

theorem onlyChanges_afterUnpack (s : State) (r : DataWord) :
    onlyChanges (.result :: completionRegs) s (afterUnpack s r) :=
  onlyChanges_trans (onlyChanges_setResult s r) (onlyChanges_complete _ .ok)

theorem unpackField_in_buffer {off n : Nat} (fits : off + n ≤ 8) (b : Buf)
    (value : Nat → DataWord) (s : State) :
    unpackField off n b value s =
      .next (afterUnpack s (value ((s.buffer b).readLE off n))) := by
  rw [unpackField_eq, if_pos fits, afterUnpack]

/-- The shape of every UNPACK that succeeds: RESULT from the value whose bytes the field holds, and
nothing else but the completion. -/
theorem unpacks_and_completes {i : Instr} {s : State} {off n : Nat} {b : Buf}
    {value : Nat → DataWord} {v : BitVec (8 * n)} (h : exec i s = unpackField off n b value s)
    (fits : off + n ≤ 8) (holds : holdsField (s.buffer b) off n v) :
    ∃ t, exec i s = .next t ∧ completed t .ok ∧ t.result = value v.toNat ∧
      onlyChanges (.result :: completionRegs) s t := by
  rw [unpackField_in_buffer fits, readLE_of_holdsField holds] at h
  exact ⟨_, h, completed_complete _ _, rfl, onlyChanges_afterUnpack s _⟩

/-! ## Integers narrower than RESULT -/

/-- One byte is a field on its own. -/
theorem holdsField_readByte (m : Memory) (off : Nat) : holdsField m off 1 (m.readByte off) := by
  intro k hk
  obtain rfl : k = 0 := Nat.lt_one_iff.1 hk
  exact BitVec.extractLsb'_eq_self.symm

/-- Settles O26: an offset that has an encoding leaves room for one byte, and widening it with zeros
keeps its unsigned value. -/
theorem unpackU8ReadsOneByte : Obligations.UnpackU8ReadsOneByte := by
  unfold Obligations.UnpackU8ReadsOneByte
  refine ⟨fun off d h => decode_unpack_words (o := .unpackU8) rfl (fun _ _ => rfl) h d,
    fun s off b h => ?_⟩
  obtain ⟨t, hexec, hok, hresult, hframe⟩ :=
    unpacks_and_completes (i := .unpackU8 off b) (n := 1) rfl h
      (holdsField_readByte (s.buffer b) off)
  refine ⟨t, hexec, hok, ?_, hframe⟩
  rw [hresult, BitVec.ofNat_toNat, BitVec.setWidth_eq, BitVec.toNat_setWidth_of_le (by decide)]

/-- Settles O27: the bounds check, then the field widened with its sign, which keeps its signed
value. -/
theorem unpackI16ReadsASignedHalf : Obligations.UnpackI16ReadsASignedHalf := by
  unfold Obligations.UnpackI16ReadsASignedHalf
  refine ⟨fun off d h => decode_unpack_words (o := .unpackI16) rfl (fun _ _ => rfl) h d,
    fun s off b => ⟨fun past => only_completes_past_buffer rfl past s, fun v fits holds => ?_⟩⟩
  obtain ⟨t, hexec, hok, hresult, hframe⟩ :=
    unpacks_and_completes (i := .unpackI16 off b) (n := 2) rfl fits holds
  refine ⟨t, hexec, hok, ?_, hframe⟩
  rw [hresult, BitVec.ofNat_toNat, BitVec.setWidth_eq,
    BitVec.toInt_signExtend_of_le (by decide)]

/-! ## Whole words -/

/-- The three operations on a field as wide as RESULT are one read (42_unpack.md R90, R91, R92). -/
theorem unpackWord_eq {i : Instr} {off : Nat} {b : Buf}
    (hi : i ∈ [Instr.unpackI32 off b, Instr.unpackU32 off b, Instr.unpackF32 off b]) :
    fieldOf i = some (off, 4) ∧ ∀ s, exec i s = unpackField off 4 b (BitVec.ofNat 32) s := by
  simp only [List.mem_cons, List.not_mem_nil, or_false] at hi
  obtain rfl | rfl | rfl := hi
  · exact ⟨rfl, fun _ => rfl⟩
  · exact ⟨rfl, fun _ => rfl⟩
  · exact ⟨rfl, fun _ => rfl⟩

/-- A field as wide as RESULT is read bit for bit. -/
theorem unpacks_word {i : Instr} {s : State} {off : Nat} {b : Buf} {v : DataWord}
    (hi : i ∈ [Instr.unpackI32 off b, Instr.unpackU32 off b, Instr.unpackF32 off b])
    (fits : off ≤ 4) (holds : holdsField (s.buffer b) off 4 v) :
    ∃ t, exec i s = .next t ∧ completed t .ok ∧ t.result = v ∧
      onlyChanges (.result :: completionRegs) s t := by
  obtain ⟨-, hexec⟩ := unpackWord_eq hi
  obtain ⟨t, ht, hok, hresult, hframe⟩ :=
    unpacks_and_completes (n := 4) (hexec s) (Nat.add_le_add_right fits 4) holds
  rw [BitVec.ofNat_toNat, BitVec.setWidth_eq] at hresult
  exact ⟨t, ht, hok, hresult, hframe⟩

/-- UNPACK_F32 TX reads back the bytes that PACK_F32 stored (41_pack.md R83, 42_unpack.md R92). -/
theorem unpackF32_after_packF32 (s : State) {off : Nat} (x : DataWord) (fits : off ≤ 4) :
    ∃ t u, exec (.packF32 off x) s = .next t ∧ exec (.unpackF32 off .tx) t = .next u ∧
      u.result = x := by
  obtain ⟨t, hpack, -, ⟨hbytes, -⟩, -⟩ := packs_and_completes (i := .packF32 off x)
    (packField_in_buffer (Nat.add_le_add_right fits 4) x.toNat s)
  obtain ⟨u, hunpack, -, hresult, -⟩ :=
    unpacks_word (s := t) (off := off) (b := .tx) (i := .unpackF32 off .tx) (by simp) fits hbytes
  exact ⟨t, u, hpack, hunpack, hresult⟩

/-- Settles O28: the three operations are one read of four bytes, which fits up to offset 4, and of
the bytes PACK_F32 stored it is the inverse. -/
theorem unpackWordReadsAllFourBytes : Obligations.UnpackWordReadsAllFourBytes := by
  unfold Obligations.UnpackWordReadsAllFourBytes
  refine ⟨fun off d h => ?_, fun s off b i hi => ⟨fun past => ?_, fun v fits holds => ?_⟩,
    fun s off x fits => unpackF32_after_packF32 s x fits⟩
  · obtain ⟨i32Rx, i32Tx⟩ := decode_unpack_words (o := .unpackI32) rfl (fun _ _ => rfl) h d
    obtain ⟨u32Rx, u32Tx⟩ := decode_unpack_words (o := .unpackU32) rfl (fun _ _ => rfl) h d
    obtain ⟨f32Rx, f32Tx⟩ := decode_unpack_words (o := .unpackF32) rfl (fun _ _ => rfl) h d
    exact ⟨i32Rx, i32Tx, u32Rx, u32Tx, f32Rx, f32Tx⟩
  · obtain ⟨hfield, -⟩ := unpackWord_eq hi
    exact only_completes_past_buffer hfield (Nat.add_lt_add_right past 4) s
  · exact unpacks_word hi fits holds

end Sys2Proof.Proofs

/-! The configuration operations (43_exchange.md R94, R95). -/

namespace Sys2Proof.Proofs

open Sys2Proof.Machine Sys2Proof.Safety

/-! ## SET_TIMEOUT -/

theorem onlyChanges_setTimeout (s : State) (v : BitVec 16) :
    onlyChanges [.timeoutMs] s (s.setTimeout v) := by
  intro r hr
  cases r with
  | timeoutMs => exact absurd (by decide) hr
  | txBuf | rxBuf => exact fun _ => rfl
  | _ => rfl

/-- The high half is 0 exactly in the operands that fit TIMEOUT_MS. -/
theorem extractLsb'_high_half_eq_zero_iff (d : DataWord) :
    d.extractLsb' 16 16 = 0 ↔ d.toNat ≤ 65535 := by
  rw [← BitVec.toNat_inj]
  show highHalf d = 0 ↔ _
  rw [highHalf_eq]
  omega

theorem exec_setTimeout_above (s : State) {ms : DataWord} (h : 65535 < ms.toNat) :
    exec (.setTimeout ms) s = .next (s.complete .errRange) :=
  if_pos fun fits => Nat.not_le.2 h ((extractLsb'_high_half_eq_zero_iff ms).1 fits)

theorem exec_setTimeout_in_range (s : State) {ms : DataWord} (h : ms.toNat ≤ 65535) :
    exec (.setTimeout ms) s = .next ((s.setTimeout (ms.extractLsb' 0 16)).complete .ok) :=
  if_neg (not_not.2 ((extractLsb'_high_half_eq_zero_iff ms).2 h))

/-- Settles O33: one check on the high half, and a value that passes it is its low half. -/
theorem setTimeoutSetsTheTimeoutOrRejects : Obligations.SetTimeoutSetsTheTimeoutOrRejects := by
  unfold Obligations.SetTimeoutSetsTheTimeoutOrRejects
  refine ⟨fun d => decode_fields 0x2800 d .setTimeout (by decide) (by decide), fun s ms =>
    ⟨fun h => only_completes (exec_setTimeout_above s h), fun h => ?_⟩⟩
  have hlow : (ms.extractLsb' 0 16).toNat = ms.toNat :=
    (lowHalf_eq ms).trans (Nat.mod_eq_of_lt (Nat.lt_succ_of_le h))
  exact ⟨_, exec_setTimeout_in_range s h, completed_complete _ _, hlow,
    onlyChanges_trans (onlyChanges_setTimeout s _) (onlyChanges_complete _ .ok)⟩

/-! ## SET_POLICY -/

theorem onlyChanges_setSilent (s : State) (y : Bool) :
    onlyChanges [.silent] s (s.setSilent y) := by
  intro r hr
  cases r with
  | silent => exact absurd (by decide) hr
  | txBuf | rxBuf => exact fun _ => rfl
  | _ => rfl

theorem decode_setPolicy (y : Bool) (d : DataWord) :
    decode (if y then 0x3001 else 0x3000) d = .op (.setPolicy y) := by
  cases y with
  | false => exact decode_fields 0x3000 d .setPolicy (by decide) (by decide)
  | true => exact decode_fields 0x3001 d .setPolicy (by decide) (by decide)

theorem exec_setPolicy (s : State) (y : Bool) :
    exec (.setPolicy y) s = .next ((s.setSilent y).complete .ok) := rfl

/-- Settles O34: the operation has no check, so the update before its completion is all it does. -/
theorem setPolicySetsSilent : Obligations.SetPolicySetsSilent := by
  unfold Obligations.SetPolicySetsSilent
  exact ⟨decode_setPolicy, fun s y => ⟨_, exec_setPolicy s y, completed_complete _ _, rfl,
    onlyChanges_trans (onlyChanges_setSilent s y) (onlyChanges_complete _ .ok)⟩⟩

end Sys2Proof.Proofs

/-! The edges of the exchange engine outside IDLE (43_exchange.md R97 to R102, R105). -/

namespace Sys2Proof.Proofs

open Sys2Proof.Machine Sys2Proof.Safety

/-! ## Frames of an edge -/

theorem onlyChanges_mono {as bs : List Reg} {s t : State} (hsub : as ⊆ bs)
    (h : onlyChanges as s t) : onlyChanges bs s t :=
  fun r hr => h r fun hr' => hr (hsub hr')

theorem onlyChanges_beginCycle (s : State) : onlyChanges cycleRegs s s.beginCycle := by
  intro r hr
  cases r with
  | rspV | inputs | cycle => exact absurd (by decide) hr
  | txBuf | rxBuf => exact fun _ => rfl
  | _ => rfl

theorem onlyChanges_startReplyWait (s : State) :
    onlyChanges [.fsm, .tickCnt] s s.startReplyWait := by
  intro r hr
  cases r with
  | fsm | tickCnt => exact absurd (by decide) hr
  | txBuf | rxBuf => exact fun _ => rfl
  | _ => rfl

theorem onlyChanges_countTick (s : State) : onlyChanges [.tickCnt] s s.countTick := by
  intro r hr
  cases r with
  | tickCnt => exact absurd (by decide) hr
  | txBuf | rxBuf => exact fun _ => rfl
  | _ => rfl

theorem onlyChanges_capture (s : State) (i : Inputs) :
    onlyChanges captureRegs s (s.capture i) := by
  intro r hr
  cases r with
  | rxId | rxRtr | rxDlc | rxBuf => exact absurd (by decide) hr
  | txBuf => exact fun _ => rfl
  | _ => rfl

/-- The frame of an edge is the frame of its branch with what every cycle changes (R108). -/
theorem onlyChanges_of_branch {as bs : List Reg} {s t : State}
    (h : onlyChanges as s.beginCycle t) (hsub : cycleRegs ++ as ⊆ bs) : onlyChanges bs s t :=
  onlyChanges_mono hsub (onlyChanges_trans (onlyChanges_beginCycle s) h)

/-! ## The branch of an edge -/

theorem step_of_tx {s : State} (hfsm : s.fsm = .tx) (hrst : s.now.rst = false) :
    step s = .next (txEdge s.now s.beginCycle) := by
  simp [step, edge, hrst, hfsm]

theorem step_of_waitRsp {s : State} (hfsm : s.fsm = .waitRsp) (hrst : s.now.rst = false) :
    step s = .next (waitRspEdge s.now s.beginCycle) := by
  simp [step, edge, hrst, hfsm]

theorem step_of_waitHb {s : State} (hfsm : s.fsm = .waitHb) (hrst : s.now.rst = false) :
    step s = .next (waitHbEdge s.now s.beginCycle) := by
  simp [step, edge, hrst, hfsm]

/-! ## What an edge can end in -/

/-- An edge that completes without a reply writes nothing but the completion. -/
theorem completes_at_edge (s : State) (c : Code) :
    completed (s.beginCycle.complete c) c ∧
      onlyChanges (.inputs :: .cycle :: completionRegs) s (s.beginCycle.complete c) :=
  ⟨completed_complete _ c, onlyChanges_of_branch (onlyChanges_complete _ c) (by decide)⟩

/-- The code of a timeout is chosen by SILENT, which no cycle changes on its own (R98). -/
theorem timeoutCode_beginCycle (s : State) :
    timeoutCode s.beginCycle = if s.silent then .defaulted else .timeout := rfl

theorem cappedDlc_eq (dlc : BitVec 4) : cappedDlc dlc = min dlc.toNat 8 := rfl

/-- The capped length fits RX_DLC. -/
theorem ofNat_cappedDlc_toNat (dlc : BitVec 4) :
    (BitVec.ofNat 4 (cappedDlc dlc)).toNat = min dlc.toNat 8 := by
  rw [cappedDlc_eq, BitVec.toNat_ofNat]
  omega

theorem captured_capture (s : State) (i : Inputs) : captured i (s.capture i) := by
  refine ⟨rfl, rfl, ofNat_cappedDlc_toNat i.rxDlc, fun k => ?_⟩
  rw [State.capture_rxBuf, Memory.readByte_ofPayload, cappedDlc_eq, byte_of_toNat]

/-- The edge that consumes a matching frame, the same in both wait states (R102, R105). -/
theorem captures_at_edge (s : State) (i : Inputs) :
    completed ((s.beginCycle.capture i).complete .ok) .ok ∧
      captured i ((s.beginCycle.capture i).complete .ok) ∧
      onlyChanges (captureRegs ++ .inputs :: .cycle :: completionRegs) s
        ((s.beginCycle.capture i).complete .ok) :=
  ⟨completed_complete _ .ok, captured_capture s.beginCycle i,
    onlyChanges_of_branch (onlyChanges_trans (onlyChanges_capture _ i) (onlyChanges_complete _ .ok))
      (by decide)⟩

/-! ## The ports out of reset -/

theorem outputs_txValid (s : State) : (s.outputs false).txValid = decide (s.fsm = .tx) :=
  Bool.and_true _

theorem outputs_rxReady (s : State) : (s.outputs false).rxReady = s.fsm.isWait :=
  Bool.and_true _

theorem toPayload_toNat (m : Memory) : m.toPayload.toNat = m.readLE 0 8 :=
  (BitVec.toNat_ofNat _ _).trans (Nat.mod_eq_of_lt (Memory.readLE_lt 8 m 0))

/-- Byte `k` of a buffer stands on bits [8k+7:8k] of the port (20_memory.md R45). -/
theorem toPayload_byte (m : Memory) {k : Nat} (hk : k < 8) :
    m.toPayload.extractLsb' (8 * k) 8 = m.readByte k := by
  rw [← byte_of_toNat, toPayload_toNat, Memory.byte_readLE 8 m 0 k hk, Nat.zero_add]

/-! ## TX -/

section
variable {i : Inputs} (s : State)

theorem txEdge_not_ready (hready : i.txReady = false) : txEdge i s = s := by
  simp [txEdge, hready]

theorem txEdge_rejected (hready : i.txReady = true) (hok : i.txOk = false) :
    txEdge i s = s.complete .errSend := by
  simp [txEdge, hready, hok]

theorem txEdge_command_sent (hready : i.txReady = true) (hok : i.txOk = true)
    (hrtr : s.frameRtr = false) : txEdge i s = s.complete .ok := by
  simp [txEdge, hready, hok, hrtr]

theorem txEdge_query_sent_zero_timeout (hready : i.txReady = true) (hok : i.txOk = true)
    (hrtr : s.frameRtr = true) (hzero : s.timeoutMs = 0) :
    txEdge i s = s.complete (timeoutCode s) := by
  simp [txEdge, hready, hok, hrtr, hzero]

theorem txEdge_query_sent (hready : i.txReady = true) (hok : i.txOk = true)
    (hrtr : s.frameRtr = true) (hpos : s.timeoutMs ≠ 0) : txEdge i s = s.startReplyWait := by
  rw [txEdge, if_pos hready, hok, hrtr]
  exact if_neg hpos

end

/-- Settles O37: the ports are functions of the registers, and each answer of the transport takes
one branch of R97. -/
theorem txEdgeFollowsTheTransport : Obligations.TxEdgeFollowsTheTransport := by
  unfold Obligations.TxEdgeFollowsTheTransport
  intro s hfsm hrst
  have hvalid : (s.outputs false).txValid = true :=
    (outputs_txValid s).trans (decide_eq_true hfsm)
  have hnotReady : (s.outputs false).rxReady = false :=
    (outputs_rxReady s).trans (congrArg Fsm.isWait hfsm)
  refine ⟨hvalid, rfl, rfl, rfl, fun k hk => toPayload_byte s.txBuf hk, hnotReady,
    _, step_of_tx hfsm hrst, ?_, ?_, ?_, ?_, ?_⟩
  · intro hready
    rw [txEdge_not_ready s.beginCycle hready]
    exact ⟨hfsm, rfl, onlyChanges_beginCycle s⟩
  · intro hready hok
    rw [txEdge_rejected s.beginCycle hready hok]
    exact completes_at_edge s .errSend
  · intro hready hok hrtr
    rw [txEdge_command_sent s.beginCycle hready hok hrtr]
    exact completes_at_edge s .ok
  · intro hready hok hrtr hzero
    rw [txEdge_query_sent_zero_timeout s.beginCycle hready hok hrtr hzero, timeoutCode_beginCycle]
    exact completes_at_edge s _
  · intro hready hok hrtr hpos
    rw [txEdge_query_sent s.beginCycle hready hok hrtr hpos]
    exact ⟨rfl, rfl, rfl, onlyChanges_of_branch (onlyChanges_startReplyWait _) (by decide)⟩

/-! ## WAIT_RSP -/

section
variable {i : Inputs} (s : State)

theorem waitRspEdge_of_match (hmatch : i.rxValid = true ∧ i.rxId = s.waitId) :
    waitRspEdge i s = (s.capture i).complete .ok :=
  if_pos ((matchingFrame_iff i s).2 hmatch)

theorem waitRspEdge_without_match (hmatch : ¬(i.rxValid = true ∧ i.rxId = s.waitId)) :
    waitRspEdge i s = if i.msTick then tickEdge s else s :=
  if_neg (mt (matchingFrame_iff i s).1 hmatch)

theorem tickEdge_before_last (hbefore : s.tickCnt.toNat + 1 < s.timeoutMs.toNat) :
    tickEdge s = s.countTick :=
  if_neg (Nat.not_le.2 hbefore)

theorem tickEdge_last (hlast : s.timeoutMs.toNat ≤ s.tickCnt.toNat + 1) :
    tickEdge s = s.complete (timeoutCode s) :=
  if_pos hlast

/-- A tick below the timeout does not wrap TICK_CNT. -/
theorem countTick_tickCnt_toNat (hbefore : s.tickCnt.toNat + 1 < s.timeoutMs.toNat) :
    s.countTick.tickCnt.toNat = s.tickCnt.toNat + 1 := by
  have hbound := s.timeoutMs.isLt
  exact BitVec.toNat_add_of_lt (hbefore.trans hbound)

end

/-- Settles O38: a match takes the first branch of R102 whatever the tick; without one the tick, and
its place in the count, choose the branch. -/
theorem waitRspEdgeMatchesOrCounts : Obligations.WaitRspEdgeMatchesOrCounts := by
  unfold Obligations.WaitRspEdgeMatchesOrCounts
  intro s hfsm hrst
  refine ⟨(outputs_rxReady s).trans (congrArg Fsm.isWait hfsm), _, step_of_waitRsp hfsm hrst,
    ?_, ?_, ?_, ?_⟩
  · intro hmatch
    rw [waitRspEdge_of_match s.beginCycle hmatch]
    exact captures_at_edge s s.now
  · intro hmatch htick
    rw [waitRspEdge_without_match s.beginCycle hmatch, if_neg (Bool.eq_false_iff.1 htick)]
    exact ⟨hfsm, rfl, onlyChanges_beginCycle s⟩
  · intro hmatch htick hbefore
    rw [waitRspEdge_without_match s.beginCycle hmatch, if_pos htick,
      tickEdge_before_last s.beginCycle hbefore]
    exact ⟨hfsm, rfl, countTick_tickCnt_toNat s.beginCycle hbefore,
      onlyChanges_of_branch (onlyChanges_countTick _) (by decide)⟩
  · intro hmatch htick hlast
    rw [waitRspEdge_without_match s.beginCycle hmatch, if_pos htick,
      tickEdge_last s.beginCycle hlast, timeoutCode_beginCycle]
    exact completes_at_edge s _

/-! ## WAIT_HB -/

theorem waitHbEdge_of_match {i : Inputs} (s : State)
    (hmatch : i.rxValid = true ∧ i.rxId = s.waitId) :
    waitHbEdge i s = (s.capture i).complete .ok :=
  if_pos ((matchingFrame_iff i s).2 hmatch)

theorem waitHbEdge_without_match {i : Inputs} (s : State)
    (hmatch : ¬(i.rxValid = true ∧ i.rxId = s.waitId)) : waitHbEdge i s = s :=
  if_neg (mt (matchingFrame_iff i s).1 hmatch)

/-- Settles O39: the match is the only branch of R105 that does anything. -/
theorem waitHbEdgeOnlyMatches : Obligations.WaitHbEdgeOnlyMatches := by
  unfold Obligations.WaitHbEdgeOnlyMatches
  intro s hfsm hrst
  refine ⟨(outputs_rxReady s).trans (congrArg Fsm.isWait hfsm), _, step_of_waitHb hfsm hrst,
    ?_, ?_⟩
  · intro hmatch
    rw [waitHbEdge_of_match s.beginCycle hmatch]
    exact captures_at_edge s s.now
  · intro hmatch
    rw [waitHbEdge_without_match s.beginCycle hmatch]
    exact ⟨hfsm, rfl, onlyChanges_beginCycle s⟩

end Sys2Proof.Proofs

/-! The edge that accepts a word which is no operation (60_exceptions.md R113). -/

namespace Sys2Proof.Proofs

open Sys2Proof.Machine Sys2Proof.Safety

/-- `legalWord` looks at one data word, but no data word makes an ILLEGAL word an operation (R68). -/
theorem legalWord_eq_false_iff (cmd : CmdWord) (data : DataWord) :
    legalWord cmd = false ↔ ∃ why, decode cmd data = .illegal why := by
  rw [exists_congr (decode_illegal_iff cmd data 0), legalWord]
  cases decode cmd 0 with
  | op i => simp
  | illegal why => simp

theorem outputs_cmdReady (s : State) : (s.outputs false).cmdReady = decide (s.fsm = .idle) :=
  Bool.and_true _

theorem step_of_idle {s : State} (hfsm : s.fsm = .idle) (hrst : s.now.rst = false) :
    step s = idleEdge s.now s.beginCycle := by
  simp [step, edge, hrst, hfsm]

theorem idleEdge_of_illegal {i : Inputs} {why : Illegal} (s : State) (hvalid : i.cmdValid = true)
    (hdec : decode i.cmd i.data = .illegal why) :
    idleEdge i s = .next (s.complete .illegal) := by
  simp [idleEdge, hvalid, hdec]

/-- Settles O5: the accepting edge takes the ILLEGAL branch of R108, which is a completion and
nothing else. -/
theorem illegalWordOnlyReportsIllegal : Obligations.IllegalWordOnlyReportsIllegal := by
  unfold Obligations.IllegalWordOnlyReportsIllegal
  intro s hfsm hrst hvalid hillegal
  have hdecode (d : DataWord) := (legalWord_eq_false_iff s.now.cmd d).1 hillegal
  obtain ⟨why, hwhy⟩ := hdecode s.now.data
  have hready : (s.outputs false).cmdReady = true :=
    (outputs_cmdReady s).trans (decide_eq_true hfsm)
  have hstep : step s = .next (s.beginCycle.complete .illegal) :=
    (step_of_idle hfsm hrst).trans (idleEdge_of_illegal s.beginCycle hvalid hwhy)
  exact ⟨hdecode, hready, _, hstep, completes_at_edge s .illegal⟩

end Sys2Proof.Proofs

/-! The round trip of the encoder and the decoder, and the rows of the operation map
(30_encoding.md R65 to R68). -/

namespace Sys2Proof.Proofs

open Sys2Proof.Machine Sys2Proof.Safety

/-! ## The words of the encoder -/

theorem toNat_append_fields (opc : BitVec 5) (f : BitVec 11) :
    (opc ++ f : CmdWord).toNat = 2048 * opc.toNat + f.toNat := by
  rw [BitVec.toNat_append, shiftLeft_or_eq f.isLt]
  omega

theorem packFields_toNat {off : Nat} (h : off < 8) : (packFields off).toNat = 256 * off := by
  rw [packFields, BitVec.toNat_append, BitVec.toNat_ofNat, Nat.mod_eq_of_lt h,
    shiftLeft_or_eq (by decide), Nat.mul_comm]
  rfl

theorem unpackFields_toNat {off : Nat} (h : off < 8) (b : Buf) :
    (unpackFields off b).toNat = 256 * off + 128 * b.bit.toNat := by
  have hbit : (BitVec.ofBool b.bit).toNat = b.bit.toNat := BitVec.toNat_ofBool b.bit
  have hb : b.bit.toNat ≤ 1 := Bool.toNat_le b.bit
  rw [unpackFields, BitVec.toNat_append, BitVec.toNat_append, BitVec.toNat_ofNat,
    Nat.mod_eq_of_lt h, hbit, shiftLeft_or_eq (show b.bit.toNat < 2 ^ 1 by omega),
    shiftLeft_or_eq (by decide)]
  show _ + 0 = _
  omega

/-- The word of a PACK as the encoder and as the rules write it. -/
theorem pack_word_eq (opc : BitVec 5) {off : Nat} (h : off < 8) :
    (opc ++ packFields off : CmdWord) = BitVec.ofNat 16 (opc.toNat <<< 11 ||| off <<< 8) := by
  apply BitVec.eq_of_toNat_eq
  rw [toNat_append_fields, packFields_toNat h, pack_word_toNat opc h]

/-- The word of an UNPACK as the encoder and as the rules write it. -/
theorem unpack_word_eq (opc : BitVec 5) {off : Nat} (h : off < 8) (b : Buf) :
    (opc ++ unpackFields off b : CmdWord) =
      BitVec.ofNat 16 (opc.toNat <<< 11 ||| off <<< 8 ||| b.bit.toNat <<< 7) := by
  apply BitVec.eq_of_toNat_eq
  rw [toNat_append_fields, unpackFields_toNat h, unpack_word_toNat opc h b]

theorem setDlc_word_eq {len : Nat} (h : len < 16) :
    (Opcode.setDlc.bits ++ (0#7 ++ BitVec.ofNat 4 len) : CmdWord) =
      BitVec.ofNat 16 (0x2000 ||| len) := by
  revert len
  decide

/-! ## The data words of the encoder -/

theorem halves_toNat {axis cid : Nat} (ha : axis < 65536) (hc : cid < 65536) :
    (BitVec.ofNat 16 axis ++ BitVec.ofNat 16 cid : DataWord).toNat = 65536 * axis + cid := by
  rw [BitVec.toNat_append, BitVec.toNat_ofNat, BitVec.toNat_ofNat, Nat.mod_eq_of_lt ha,
    Nat.mod_eq_of_lt hc, shiftLeft_or_eq hc]
  omega

theorem highHalf_append {axis cid : Nat} (ha : axis < 65536) (hc : cid < 65536) :
    highHalf (BitVec.ofNat 16 axis ++ BitVec.ofNat 16 cid) = axis := by
  rw [highHalf_eq, halves_toNat ha hc]
  omega

theorem lowHalf_append {axis cid : Nat} (ha : axis < 65536) (hc : cid < 65536) :
    lowHalf (BitVec.ofNat 16 axis ++ BitVec.ofNat 16 cid) = cid := by
  rw [lowHalf_eq, halves_toNat ha hc]
  omega

/-! ## Decoding what the encoder writes -/

theorem decode_encode_pack {i : Instr} {o : Opcode} {mk : Nat → DataWord → Instr} {off : Nat}
    {v : DataWord} (hi : encode i = (o.bits ++ packFields off, v)) (hk : o.format = .k)
    (hmk : ∀ cmd d, decodeFields o cmd d = .op (mk (offField cmd) d)) (h : offsetFits off = true) :
    decode (encode i).1 (encode i).2 = .op (mk off v) := by
  have hoff : off < 8 := of_decide_eq_true h
  rw [hi, pack_word_eq o.bits hoff]
  exact decode_pack_word hk hmk hoff v

theorem decode_encode_unpack {i : Instr} {o : Opcode} {mk : Nat → Buf → Instr} {off : Nat}
    {b : Buf} (hi : encode i = (o.bits ++ unpackFields off b, 0)) (hu : o.format = .u)
    (hmk : ∀ cmd d, decodeFields o cmd d = .op (mk (offField cmd) (bufField cmd)))
    (h : offsetFits off = true) :
    decode (encode i).1 (encode i).2 = .op (mk off b) := by
  have hoff : off < 8 := of_decide_eq_true h
  rw [hi, unpack_word_eq o.bits hoff b]
  exact decode_unpack_word hu hmk hoff b 0

theorem decode_encode_idEnc (q : Bool) {axis cid : Nat} (ha : axis < 65536) (hc : cid < 65536) :
    decode (encode (.idEnc q axis cid)).1 (encode (.idEnc q axis cid)).2 =
      .op (.idEnc q axis cid) := by
  have hword : (encode (.idEnc q axis cid)).1 = if q then 0x0801 else 0x0800 := by
    show (Opcode.idEnc.bits ++ (0#10 ++ BitVec.ofBool q) : CmdWord) = _
    revert q
    decide
  have hhigh : (encode (.idEnc q axis cid)).2.toNat / 65536 = axis :=
    (highHalf_eq _).symm.trans (highHalf_append ha hc)
  have hlow : (encode (.idEnc q axis cid)).2.toNat % 65536 = cid :=
    (lowHalf_eq _).symm.trans (lowHalf_append ha hc)
  rw [hword, decode_idEnc, hhigh, hlow]

theorem decode_encode_idDec (src : IdSrc) :
    decode (encode (.idDec src)).1 (encode (.idDec src)).2 = .op (.idDec src) := by
  cases src with
  | value v =>
    show decode (Opcode.idDec.bits ++ (0#9 ++ 0#2)) v = _
    exact decode_fields _ v .idDec (by decide) (by decide)
  | rx => exact decode_fields 0x1001 0 .idDec (by decide) (by decide)
  | frame => exact decode_fields 0x1002 0 .idDec (by decide) (by decide)

theorem decode_encode_setPolicy (y : Bool) :
    decode (encode (.setPolicy y)).1 (encode (.setPolicy y)).2 = .op (.setPolicy y) := by
  have hword : (encode (.setPolicy y)).1 = if y then 0x3001 else 0x3000 := by
    cases y <;> rfl
  rw [hword, decode_setPolicy]

theorem decode_hbWait (d : DataWord) : decode 0xC800 d = .op (.hbWait (highHalf d)) :=
  decode_fields 0xC800 d .hbWait (by decide) (by decide)

theorem decode_xchg (d : DataWord) : decode 0xC000 d = .op .xchg :=
  decode_fields 0xC000 d .xchg (by decide) (by decide)

/-- Settles O6: the encoder writes the words that the rules write, format by format, and those are
known to decode. -/
theorem decodeOfEncodeIsTheInstruction : Obligations.DecodeOfEncodeIsTheInstruction := by
  unfold Obligations.DecodeOfEncodeIsTheInstruction
  intro i wf
  cases i with
  | nop => exact decode_fields 0x0000 0 .nop (by decide) (by decide)
  | bufClr => exact decode_fields 0x1800 0 .bufClr (by decide) (by decide)
  | setTimeout ms =>
    show decode (Opcode.setTimeout.bits ++ 0#11) ms = _
    exact decode_fields _ ms .setTimeout (by decide) (by decide)
  | xchg => exact decode_xchg 0
  | idDec src => exact decode_encode_idDec src
  | setPolicy y => exact decode_encode_setPolicy y
  | idEnc q axis cid =>
    obtain ⟨ha, hc⟩ := Bool.and_eq_true_iff.1 wf
    exact decode_encode_idEnc q (of_decide_eq_true ha) (of_decide_eq_true hc)
  | hbWait axis =>
    have hhigh := highHalf_append (of_decide_eq_true wf : axis < 65536) (show 0 < 65536 by decide)
    have hword : (Opcode.hbWait.bits ++ 0#11 : CmdWord) = 0xC800 := by decide
    show decode (Opcode.hbWait.bits ++ 0#11) (BitVec.ofNat 16 axis ++ 0#16) = _
    rw [hword, decode_hbWait]
    exact congrArg (fun a => Decoded.op (.hbWait a)) hhigh
  | setDlc len =>
    have hlen : len < 16 := of_decide_eq_true wf
    exact (congrArg (decode · 0) (setDlc_word_eq hlen)).trans (decode_setDlc hlen 0)
  | packU8 | packI16 | packI32 | packU32 | packF32 | packFf16 | packFf8 =>
    exact decode_encode_pack rfl rfl (fun _ _ => rfl) wf
  | unpackU8 | unpackI16 | unpackI32 | unpackU32 | unpackF32 | unpackFf16 =>
    exact decode_encode_unpack rfl rfl (fun _ _ => rfl) wf

/-! ## Encoding what the decoder reads -/

/-- What the decoder answers as an operation: the opcode's fields, where the reserved bits are
clear. -/
theorem decode_eq_op_iff (cmd : CmdWord) (data : DataWord) (i : Instr) :
    decode cmd data = .op i ↔
      ∃ o, opcField cmd = o.bits ∧ cmd &&& o.format.reservedMask = 0 ∧
        decodeFields o cmd data = .op i := by
  simp only [← opcodeOfBits_eq_some_iff]
  rcases decode_cases cmd data with ⟨h, hd⟩ | ⟨o, h, hb, hd⟩ | ⟨o, h, hb, hd⟩
  · simp [h, hd]
  · simp only [h, hd, reduceCtorEq, Option.some.injEq, false_iff]
    rintro ⟨o', rfl, hclear, -⟩
    exact hb hclear
  · simp [h, hd, hb]

/-- ID_DEC reads its source from the two bits of SRC (40_frame.md R76). -/
theorem decodeIdDec_eq_op {cmd : CmdWord} {data : DataWord} {i : Instr}
    (h : decodeIdDec cmd data = .op i) :
    ∃ src : IdSrc, i = .idDec src ∧ src.bits.toNat = cmd.toNat % 4 := by
  have hsrc : (cmd.extractLsb' 0 2).toNat = cmd.toNat % 4 := BitVec.extractLsb'_toNat 0 2 cmd
  unfold decodeIdDec at h
  rw [hsrc] at h
  split at h
  next h0 => cases h; exact ⟨_, rfl, h0.symm⟩
  next h1 => cases h; exact ⟨_, rfl, h1.symm⟩
  next h2 => cases h; exact ⟨_, rfl, h2.symm⟩
  next => cases h

/-- The operation has the opcode it was read under. -/
theorem opcode_of_decodeFields {o : Opcode} {cmd : CmdWord} {data : DataWord} {i : Instr}
    (h : decodeFields o cmd data = .op i) : i.opcode = o := by
  cases o with
  | idDec =>
    obtain ⟨src, rfl, -⟩ := decodeIdDec_eq_op h
    rfl
  | _ => cases h; rfl

theorem offField_lt (cmd : CmdWord) : offField cmd < 8 := (cmd.extractLsb' 8 3).isLt

/-- Every field of a word is narrow enough for the operand it is read into. -/
theorem wellFormed_of_decodeFields {o : Opcode} {cmd : CmdWord} {data : DataWord} {i : Instr}
    (h : decodeFields o cmd data = .op i) : i.wellFormed = true := by
  have hhigh : halfFits (highHalf data) = true := decide_eq_true (data.extractLsb' 16 16).isLt
  have hlow : halfFits (lowHalf data) = true := decide_eq_true (data.extractLsb' 0 16).isLt
  have hoff : offsetFits (offField cmd) = true := decide_eq_true (offField_lt cmd)
  cases o with
  | idDec =>
    obtain ⟨src, rfl, -⟩ := decodeIdDec_eq_op h
    rfl
  | idEnc => cases h; exact Bool.and_eq_true_iff.2 ⟨hhigh, hlow⟩
  | hbWait => cases h; exact hhigh
  | setDlc => cases h; exact decide_eq_true (cmd.extractLsb' 0 4).isLt
  | packU8 | packI16 | packI32 | packU32 | packF32 | packFf16 | packFf8 => cases h; exact hoff
  | unpackU8 | unpackI16 | unpackI32 | unpackU32 | unpackF32 | unpackFf16 => cases h; exact hoff
  | nop | bufClr | setTimeout | setPolicy | xchg => cases h; rfl

theorem bit0Field_toNat (cmd : CmdWord) : (bit0Field cmd).toNat = cmd.toNat % 2 := by
  rw [bit0Field, BitVec.getLsbD, Nat.testBit_zero]
  have := Nat.mod_two_eq_zero_or_one cmd.toNat
  rcases this with h | h <;> simp [h]

theorem bufField_bit_toNat (cmd : CmdWord) :
    (bufField cmd).bit.toNat = cmd.toNat / 128 % 2 := by
  rcases Nat.mod_two_eq_zero_or_one (cmd.toNat / 128) with h | h
  · rw [h, bufField_eq_of_bit (b := .rx) h]
    rfl
  · rw [h, bufField_eq_of_bit (b := .tx) h]
    rfl

/-- A field in the lowest bits of cmd[10:0], the bits above it 0 (the formats Q, S, L and Y). -/
theorem zero_append_toNat {k w : Nat} (f : BitVec w) : (0#k ++ f).toNat = f.toNat := by
  rw [BitVec.toNat_append]
  simp

/-- Where the reserved bits are clear, cmd[10:0] is what the encoder writes for the operands read
from it (30_encoding.md R65, R66). -/
theorem fieldBits_of_decodeFields {o : Opcode} {cmd : CmdWord} {data : DataWord} {i : Instr}
    (hclear : cmd &&& o.format.reservedMask = 0) (h : decodeFields o cmd data = .op i) :
    i.fieldBits.toNat = cmd.toNat % 2048 := by
  rw [and_reservedMask_eq_zero_iff] at hclear
  cases o with
  | nop | bufClr | setTimeout | xchg | hbWait =>
    cases h
    have hzero : cmd.toNat / 1 % 2048 = 0 := hclear
    show 0 = _
    omega
  | idEnc | setPolicy =>
    cases h
    have hzero : cmd.toNat / 2 % 1024 = 0 := hclear
    refine (zero_append_toNat _).trans ?_
    rw [BitVec.toNat_ofBool, bit0Field_toNat]
    omega
  | idDec =>
    obtain ⟨src, rfl, hsrc⟩ := decodeIdDec_eq_op h
    have hzero : cmd.toNat / 4 % 512 = 0 := hclear
    refine (zero_append_toNat _).trans ?_
    rw [hsrc]
    omega
  | setDlc =>
    cases h
    have hzero : cmd.toNat / 16 % 128 = 0 := hclear
    refine (zero_append_toNat _).trans ?_
    rw [lenField, BitVec.ofNat_toNat, BitVec.setWidth_eq, BitVec.extractLsb'_toNat,
      Nat.shiftRight_zero]
    omega
  | packU8 | packI16 | packI32 | packU32 | packF32 | packFf16 | packFf8 =>
    cases h
    have hzero : cmd.toNat / 1 % 256 = 0 := hclear
    refine (packFields_toNat (offField_lt cmd)).trans ?_
    rw [offField_toNat]
    omega
  | unpackU8 | unpackI16 | unpackI32 | unpackU32 | unpackF32 | unpackFf16 =>
    cases h
    have hzero : cmd.toNat / 1 % 128 = 0 := hclear
    refine (unpackFields_toNat (offField_lt cmd) (bufField cmd)).trans ?_
    rw [offField_toNat, bufField_bit_toNat]
    omega

theorem encode_of_decode {cmd : CmdWord} {data : DataWord} {i : Instr}
    (h : decode cmd data = .op i) : (encode i).1 = cmd := by
  obtain ⟨o, hopc, hclear, hread⟩ := (decode_eq_op_iff cmd data i).1 h
  have hfields := fieldBits_of_decodeFields hclear hread
  apply BitVec.eq_of_toNat_eq
  rw [encode, toNat_append_fields, opcode_of_decodeFields hread, ← hopc, hfields, opcField_toNat]
  omega

theorem wellFormed_of_decode {cmd : CmdWord} {data : DataWord} {i : Instr}
    (h : decode cmd data = .op i) : i.wellFormed = true := by
  obtain ⟨o, -, -, hread⟩ := (decode_eq_op_iff cmd data i).1 h
  exact wellFormed_of_decodeFields hread

/-- Settles O7: the fields of a word are the fields its operation is encoded with, so the last part
is the round trip O6 of that operation. -/
theorem decodedWordIsTheEncodingOfItsInstruction :
    Obligations.DecodedWordIsTheEncodingOfItsInstruction := by
  unfold Obligations.DecodedWordIsTheEncodingOfItsInstruction
  intro cmd data i h
  have wf := wellFormed_of_decode h
  have word := encode_of_decode h
  have roundTrip := decodeOfEncodeIsTheInstruction i wf
  rw [word] at roundTrip
  exact ⟨wf, word, roundTrip⟩

/-! ## The rows of the table -/

/-- A word matches a row exactly where it has the row's opcode and clear reserved bits. -/
theorem matches_rowOf_iff_fields (cmd : CmdWord) (o : Opcode) :
    cmd &&& (rowOf o).mask = (rowOf o).pattern ↔
      opcField cmd = o.bits ∧ cmd &&& o.format.reservedMask = 0 := by
  have opcode_of_match (h : cmd &&& (rowOf o).mask = (rowOf o).pattern) :
      opcField cmd = o.bits := by
    have hmask : opcField (rowOf o).mask = BitVec.allOnes 5 := by cases o <;> rfl
    have hpattern : opcField (rowOf o).pattern = o.bits := by cases o <;> rfl
    have hopc := congrArg opcField h
    rwa [hpattern, opcField, BitVec.extractLsb'_and, ← opcField, ← opcField, hmask,
      BitVec.and_allOnes] at hopc
  constructor
  · exact fun h => ⟨opcode_of_match h, (matches_rowOf_iff (opcode_of_match h)).1 h⟩
  · exact fun ⟨hopc, hclear⟩ => (matches_rowOf_iff hopc).2 hclear

theorem exists_op_iff_legalWord (cmd : CmdWord) (data : DataWord) :
    (∃ i, decode cmd data = .op i) ↔ legalWord cmd = true := by
  rw [← Bool.not_eq_false, legalWord_eq_false_iff cmd data]
  cases decode cmd data with
  | op i => simp
  | illegal why => simp

/-- Settles O8: a match with a row is the opcode and the clear reserved bits that a legal word has,
and the opcode read is the row's. -/
theorem decoderAgreesWithTheOpcodeTable : Obligations.DecoderAgreesWithTheOpcodeTable := by
  unfold Obligations.DecoderAgreesWithTheOpcodeTable
  intro cmd data
  constructor
  · rw [exists_op_iff_legalWord, legalWord_iff, exists_row_iff, and_comm]
    exact and_congr_right fun _ => exists_congr fun o => (matches_rowOf_iff_fields cmd o).symm
  · intro i h
    obtain ⟨o, hopc, hclear, hread⟩ := (decode_eq_op_iff cmd data i).1 h
    exact ⟨rowOf o, rowOf_mem o, (matches_rowOf_iff_fields cmd o).2 ⟨hopc, hclear⟩,
      opcode_of_decodeFields hread⟩

/-- Settles O10: fixed words, evaluated. -/
theorem wordsWrittenFromTheSpecDecode : Obligations.WordsWrittenFromTheSpecDecode := by
  unfold Obligations.WordsWrittenFromTheSpecDecode
  decide

end Sys2Proof.Proofs

/-! What an operation does at the edge that accepts it, and what an edge of the block does, each
said once by the kind of update (43_exchange.md R108, 60_exceptions.md R111, R112, R114). -/

namespace Sys2Proof.Proofs

open Sys2Proof.Machine Sys2Proof.Safety

/-! ## The effect of an operation -/

/-- What an operation that passes its checks writes before it completes, under the opcodes that the
rules name as writers (10_state.md R21 to R25, R30, R33, R34). -/
inductive HostWrite (s : State) : Opcode → State → Prop
  | nothing : HostWrite s .nop s
  | header (id : CanId) (rtr : Bool) : HostWrite s .idEnc (s.setHeader id rtr)
  | result {o : Opcode} (writer : o ∈ writersOf .result) (v : DataWord) :
      HostWrite s o (s.setResult v)
  | noPayload : HostWrite s .bufClr ((s.setTxBuf Memory.zeroed).setDlc 0)
  | length {len : Nat} (le : len ≤ 8) : HostWrite s .setDlc (s.setDlc (BitVec.ofNat 4 len))
  | field {o : Opcode} {off n : Nat} (writer : o ∈ writersOf .txBuf) (fits : off + n ≤ 8)
      (v : Nat) : HostWrite s o (s.setTxBuf (s.txBuf.writeLE off n v))
  | timeout (v : BitVec 16) : HostWrite s .setTimeout (s.setTimeout v)
  | policy (silent : Bool) : HostWrite s .setPolicy (s.setSilent silent)

/-- What an operation can do at its acceptance: fail and write nothing, write and complete, or begin
to send or to listen. -/
inductive Effect (i : Instr) (s : State) : State → Prop
  | fails {c : Code} (cause : failsWith i s c) : Effect i s (s.complete c)
  | succeeds {u : State} (passes : ∀ c, ¬ failsWith i s c) (writes : HostWrite s i.opcode u) :
      Effect i s (u.complete .ok)
  | sends (hi : i = .xchg) (valid : s.frameValid = true) :
      Effect i s ((if s.frameRtr then s.clearReply else s).startWait s.frameId .tx)
  | listens {axis : Nat} (hi : i = .hbWait axis) (le : axis ≤ 63) :
      Effect i s (s.clearReply.startWait (heartbeatId axis) .waitHb)

section
variable {i : Instr} {s : State} {off n : Nat}

/-- A field operation fails by its bounds check, or as a scaled store by its range check. -/
theorem failsWith_of_field {c : Code} (hfield : fieldOf i = some (off, n))
    (h : failsWith i s c) :
    8 < off + n ∨
      ∃ x, ffscale s.cfg.ffMul x = none ∧ (i = .packFf16 off x ∨ i = .packFf8 off x) := by
  cases c with
  | errOffset =>
    obtain ⟨off', n', hfield', past⟩ := h
    cases hfield.symm.trans hfield'
    exact .inl past
  | errRange =>
    obtain ⟨ms, rfl, -⟩ | ⟨off', x, hx, ⟨rfl, -⟩ | ⟨rfl, -⟩⟩ := h
    · cases hfield
    · cases hfield
      exact .inr ⟨x, hx, .inl rfl⟩
    · cases hfield
      exact .inr ⟨x, hx, .inr rfl⟩
  | errAxis =>
    obtain ⟨axis, -, rfl | ⟨q, cid, rfl⟩⟩ := h
    · cases hfield
    · cases hfield
  | errCmd => obtain ⟨q, axis, cid, rfl, -⟩ := h; cases hfield
  | errId => obtain ⟨v, rfl, -⟩ := h; cases hfield
  | errDlc => obtain ⟨len, rfl, -⟩ := h; cases hfield
  | errNoFrame => obtain ⟨rfl, -⟩ := h; cases hfield
  | ok | timeout | defaulted | errSend | illegal => exact h.elim

/-- A field operation past the buffer. -/
theorem effect_past_buffer (hfield : fieldOf i = some (off, n)) (past : 8 < off + n) :
    ∃ t, exec i s = .next t ∧ Effect i s t :=
  ⟨_, exec_of_field_past_buffer hfield past s, .fails (c := .errOffset) ⟨off, n, hfield, past⟩⟩

/-- PACK of a plain field, and UNPACK: the bounds check is the only one. -/
theorem effect_of_plain_field (hfield : fieldOf i = some (off, n)) {u : State}
    (hexec : off + n ≤ 8 → exec i s = .next (u.complete .ok))
    (writes : off + n ≤ 8 → HostWrite s i.opcode u)
    (plain : ∀ x, i ≠ .packFf16 off x ∧ i ≠ .packFf8 off x) :
    ∃ t, exec i s = .next t ∧ Effect i s t := by
  obtain past | fits := Nat.lt_or_ge 8 (off + n)
  · exact effect_past_buffer hfield past
  · refine ⟨_, hexec fits, .succeeds (fun c h => ?_) (writes fits)⟩
    obtain past | ⟨x, -, hi | hi⟩ := failsWith_of_field hfield h
    · exact Nat.not_lt.2 fits past
    · exact (plain x).1 hi
    · exact (plain x).2 hi

theorem effect_of_packField (hfield : fieldOf i = some (off, n)) {v : Nat}
    (hexec : exec i s = packField off n v s) (writer : i.opcode ∈ writersOf .txBuf)
    (plain : ∀ x, i ≠ .packFf16 off x ∧ i ≠ .packFf8 off x) :
    ∃ t, exec i s = .next t ∧ Effect i s t :=
  effect_of_plain_field hfield (fun fits => hexec.trans (packField_in_buffer fits v s))
    (fun fits => .field writer fits v) plain

theorem effect_of_unpackField (hfield : fieldOf i = some (off, n)) {b : Buf}
    {value : Nat → DataWord} (hexec : exec i s = unpackField off n b value s)
    (writer : i.opcode ∈ writersOf .result)
    (plain : ∀ x, i ≠ .packFf16 off x ∧ i ≠ .packFf8 off x) :
    ∃ t, exec i s = .next t ∧ Effect i s t :=
  effect_of_plain_field hfield (fun fits => hexec.trans (unpackField_in_buffer fits b value s))
    (fun _ => .result writer _) plain

/-- PACK of a scaled feed-forward: the bounds check, then the range check. -/
theorem effect_of_packScaled (hfield : fieldOf i = some (off, n)) {x : DataWord}
    (hexec : exec i s = packScaled off n x s) (writer : i.opcode ∈ writersOf .txBuf)
    (cause : off + n ≤ 8 → ffscale s.cfg.ffMul x = none → failsWith i s .errRange)
    (scaled : ∀ y, i = .packFf16 off y ∨ i = .packFf8 off y → y = x) :
    ∃ t, exec i s = .next t ∧ Effect i s t := by
  obtain past | fits := Nat.lt_or_ge 8 (off + n)
  · exact effect_past_buffer hfield past
  · cases hx : ffscale s.cfg.ffMul x with
    | none => exact ⟨_, hexec.trans (packScaled_out_of_range fits hx), .fails (cause fits hx)⟩
    | some v =>
      refine ⟨_, hexec.trans (packScaled_in_range fits hx),
        .succeeds (fun c h => ?_) (.field writer fits v.toNat)⟩
      obtain past | ⟨y, hy, hi⟩ := failsWith_of_field hfield h
      · exact Nat.not_lt.2 fits past
      · rw [scaled y hi, hx] at hy
        cases hy

end

theorem effect_idEnc (q : Bool) (axis cid : Nat) (s : State) :
    ∃ t, exec (.idEnc q axis cid) s = .next t ∧ Effect (.idEnc q axis cid) s t := by
  obtain ha | ha := Nat.lt_or_ge 63 axis
  · exact ⟨_, exec_idEnc_axis_above s q cid ha,
      .fails (c := .errAxis) ⟨axis, ha, .inr ⟨q, cid, rfl⟩⟩⟩
  obtain hc | hc := Nat.lt_or_ge 31 cid
  · exact ⟨_, exec_idEnc_command_above s q ha hc,
      .fails (c := .errCmd) ⟨q, axis, cid, rfl, ha, hc⟩⟩
  · refine ⟨_, exec_idEnc_in_range s q ha hc, .succeeds (fun c => ?_) (.header _ _)⟩
    cases c <;> simp [failsWith, fieldOf, ha, hc]

theorem effect_idDec (src : IdSrc) (s : State) :
    ∃ t, exec (.idDec src) s = .next t ∧ Effect (.idDec src) s t := by
  have writer (src : IdSrc) : (Instr.idDec src).opcode ∈ writersOf .result := by
    simp [writersOf, Instr.opcode]
  cases src with
  | rx =>
    refine ⟨_, exec_idDec_rx s, .succeeds (fun c => ?_) (.result (writer _) _)⟩
    cases c <;> simp [failsWith, fieldOf]
  | frame =>
    refine ⟨_, exec_idDec_frame s, .succeeds (fun c => ?_) (.result (writer _) _)⟩
    cases c <;> simp [failsWith, fieldOf]
  | value v =>
    obtain hv | hv := Nat.lt_or_ge 0x7FF v.toNat
    · exact ⟨_, exec_idDec_above_id s hv, .fails (c := .errId) ⟨v, rfl, hv⟩⟩
    · refine ⟨_, exec_idDec_value s hv, .succeeds (fun c => ?_) (.result (writer _) _)⟩
      cases c <;> simp [failsWith, fieldOf]
      exact hv

theorem effect_setDlc (len : Nat) (s : State) :
    ∃ t, exec (.setDlc len) s = .next t ∧ Effect (.setDlc len) s t := by
  obtain hlen | hlen := Nat.lt_or_ge 8 len
  · exact ⟨_, exec_setDlc_above s hlen, .fails (c := .errDlc) ⟨len, rfl, hlen⟩⟩
  · refine ⟨_, exec_setDlc_in_range s hlen, .succeeds (fun c => ?_) (.length hlen)⟩
    cases c <;> simp [failsWith, fieldOf, hlen]

theorem effect_setTimeout (ms : DataWord) (s : State) :
    ∃ t, exec (.setTimeout ms) s = .next t ∧ Effect (.setTimeout ms) s t := by
  obtain hms | hms := Nat.lt_or_ge 65535 ms.toNat
  · exact ⟨_, exec_setTimeout_above s hms, .fails (c := .errRange) (.inl ⟨ms, rfl, hms⟩)⟩
  · refine ⟨_, exec_setTimeout_in_range s hms, .succeeds (fun c => ?_) (.timeout _)⟩
    cases c <;> simp [failsWith, fieldOf, hms]

/-! ### The acceptance of a wait -/

theorem exec_xchg_without_frame {s : State} (h : s.frameValid = false) :
    exec .xchg s = .next (s.complete .errNoFrame) := by
  show execXchg s = _
  rw [execXchg, h]
  rfl

theorem exec_xchg_with_frame {s : State} (h : s.frameValid = true) :
    exec .xchg s = .next ((if s.frameRtr then s.clearReply else s).startWait s.frameId .tx) :=
  if_pos h

theorem exec_hbWait_above (s : State) {axis : Nat} (h : 63 < axis) :
    exec (.hbWait axis) s = .next (s.complete .errAxis) :=
  if_pos h

theorem exec_hbWait_in_range (s : State) {axis : Nat} (h : axis ≤ 63) :
    exec (.hbWait axis) s = .next (s.clearReply.startWait (heartbeatId axis) .waitHb) :=
  if_neg (Nat.not_lt.2 h)

theorem effect_xchg (s : State) : ∃ t, exec .xchg s = .next t ∧ Effect .xchg s t := by
  cases hv : s.frameValid with
  | false => exact ⟨_, exec_xchg_without_frame hv, .fails (c := .errNoFrame) ⟨rfl, hv⟩⟩
  | true => exact ⟨_, exec_xchg_with_frame hv, .sends rfl hv⟩

theorem effect_hbWait (axis : Nat) (s : State) :
    ∃ t, exec (.hbWait axis) s = .next t ∧ Effect (.hbWait axis) s t := by
  obtain ha | ha := Nat.lt_or_ge 63 axis
  · exact ⟨_, exec_hbWait_above s ha, .fails (c := .errAxis) ⟨axis, ha, .inl rfl⟩⟩
  · exact ⟨_, exec_hbWait_in_range s ha, .listens rfl ha⟩

/-- Every operation answers a next state, and the state is one of its effects. -/
theorem exec_effect (i : Instr) (s : State) : ∃ t, exec i s = .next t ∧ Effect i s t := by
  cases i with
  | nop =>
    refine ⟨_, exec_nop s, .succeeds (fun c => ?_) .nothing⟩
    cases c <;> simp [failsWith, fieldOf]
  | bufClr =>
    refine ⟨_, exec_bufClr s, .succeeds (fun c => ?_) .noPayload⟩
    cases c <;> simp [failsWith, fieldOf]
  | setPolicy y =>
    refine ⟨_, exec_setPolicy s y, .succeeds (fun c => ?_) (.policy y)⟩
    cases c <;> simp [failsWith, fieldOf]
  | idEnc q axis cid => exact effect_idEnc q axis cid s
  | idDec src => exact effect_idDec src s
  | setDlc len => exact effect_setDlc len s
  | setTimeout ms => exact effect_setTimeout ms s
  | xchg => exact effect_xchg s
  | hbWait axis => exact effect_hbWait axis s
  | packU8 | packI16 | packI32 | packU32 | packF32 =>
    exact effect_of_packField rfl rfl (by simp [writersOf, Instr.opcode]) fun x => ⟨nofun, nofun⟩
  | unpackU8 | unpackI16 | unpackI32 | unpackU32 | unpackF32 | unpackFf16 =>
    exact effect_of_unpackField rfl rfl (by simp [writersOf, Instr.opcode]) fun x => ⟨nofun, nofun⟩
  | packFf16 off x =>
    exact effect_of_packScaled rfl rfl (by simp [writersOf, Instr.opcode])
      (fun fits hx => .inr ⟨off, x, hx, .inl ⟨rfl, fits⟩⟩) (by simp)
  | packFf8 off x =>
    exact effect_of_packScaled rfl rfl (by simp [writersOf, Instr.opcode])
      (fun fits hx => .inr ⟨off, x, hx, .inr ⟨rfl, fits⟩⟩) (by simp)

theorem effect_of_exec {i : Instr} {s t : State} (h : exec i s = .next t) : Effect i s t := by
  obtain ⟨t', ht', heffect⟩ := exec_effect i s
  obtain rfl := (next_inj t' t).1 (ht'.symm.trans h)
  exact heffect

/-! ## The effect of an edge -/

/-- The operation is accepted at this edge. -/
def accepted (s : State) (i : Instr) : Prop :=
  s.fsm = .idle ∧ s.now.cmdValid = true ∧ decode s.now.cmd s.now.data = .op i

/-- A frame with the awaited identifier is offered in this cycle (43_exchange.md R99). -/
def offersMatch (s : State) : Prop := s.now.rxValid = true ∧ s.now.rxId = s.waitId

/-- The completions that write nothing else, each with its cause (60_exceptions.md R111;
43_exchange.md R97, R102). -/
inductive Ends (s : State) : Code → Prop
  | illegal (idle : s.fsm = .idle) (offer : s.now.cmdValid = true)
      (illegal : legalWord s.now.cmd = false) : Ends s .illegal
  | fails {i : Instr} {c : Code} (acc : accepted s i) (cause : failsWith i s c) : Ends s c
  | notSent (tx : s.fsm = .tx) (ready : s.now.txReady = true) (ok : s.now.txOk = false) :
      Ends s .errSend
  | commandSent (tx : s.fsm = .tx) (ready : s.now.txReady = true) (ok : s.now.txOk = true)
      (rtr : s.frameRtr = false) : Ends s .ok
  | zeroTimeout (tx : s.fsm = .tx) (ready : s.now.txReady = true) (ok : s.now.txOk = true)
      (rtr : s.frameRtr = true) (zero : s.timeoutMs = 0) : Ends s (timeoutCode s)
  | lastTick (wait : s.fsm = .waitRsp) (noMatch : ¬ offersMatch s) (tick : s.now.msTick = true)
      (last : s.timeoutMs.toNat ≤ s.tickCnt.toNat + 1) : Ends s (timeoutCode s)

/-- The state in which an accepted XCHG begins to send: a query zeroes the reply buffer first
(43_exchange.md R96). -/
def sending (s : State) : State :=
  (if s.frameRtr then s.beginCycle.clearReply else s.beginCycle).startWait s.frameId .tx

theorem sending_of_query {s : State} (rtr : s.frameRtr = true) :
    sending s = s.beginCycle.clearReply.startWait s.frameId .tx := by
  rw [sending, rtr]
  rfl

theorem sending_of_command {s : State} (rtr : s.frameRtr = false) :
    sending s = s.beginCycle.startWait s.frameId .tx := by
  rw [sending, rtr]
  rfl

/-- What an edge without reset can do, by the kind of update: every safety statement about the step
is a case split over these. -/
inductive Edge (s : State) : State → Prop
  | quiet (noOffer : s.fsm = .idle → s.now.cmdValid = false) : Edge s s.beginCycle
  | ends {c : Code} (cause : Ends s c) : Edge s (s.beginCycle.complete c)
  | captures (wait : s.fsm = .waitRsp ∨ s.fsm = .waitHb) (isMatch : offersMatch s) :
      Edge s ((s.beginCycle.capture s.now).complete .ok)
  | writes {i : Instr} {u : State} (acc : accepted s i) (passes : ∀ c, ¬ failsWith i s c)
      (write : HostWrite s.beginCycle i.opcode u) : Edge s (u.complete .ok)
  | sends (acc : accepted s .xchg) (valid : s.frameValid = true) : Edge s (sending s)
  | listens {axis : Nat} (acc : accepted s (.hbWait axis)) (le : axis ≤ 63) :
      Edge s (s.beginCycle.clearReply.startWait (heartbeatId axis) .waitHb)
  | awaitsReply (tx : s.fsm = .tx) (ready : s.now.txReady = true) (ok : s.now.txOk = true)
      (rtr : s.frameRtr = true) (pos : s.timeoutMs ≠ 0) : Edge s s.beginCycle.startReplyWait
  | counts (wait : s.fsm = .waitRsp) (tick : s.now.msTick = true)
      (before : s.tickCnt.toNat + 1 < s.timeoutMs.toNat) : Edge s s.beginCycle.countTick

/-- The checks of an operation read no register that a cycle changes before its branch. -/
theorem failsWith_beginCycle (i : Instr) (s : State) (c : Code) :
    failsWith i s.beginCycle c ↔ failsWith i s c := by
  cases c <;> rfl

theorem edge_of_accepted {s t : State} {i : Instr} (acc : accepted s i)
    (h : exec i s.beginCycle = .next t) : Edge s t := by
  cases effect_of_exec h with
  | fails cause => exact .ends (.fails acc ((failsWith_beginCycle i s _).1 cause))
  | succeeds passes writes =>
    exact .writes acc (fun c hc => passes c ((failsWith_beginCycle i s c).2 hc)) writes
  | sends hi valid => exact .sends (hi ▸ acc) valid
  | listens hi le => exact .listens (hi ▸ acc) le

theorem edge_of_tx {s : State} (tx : s.fsm = .tx) : Edge s (txEdge s.now s.beginCycle) := by
  have busy : s.fsm = .idle → s.now.cmdValid = false := fun idle => nomatch idle.symm.trans tx
  obtain ⟨-, h⟩ | ⟨ready, ok, h⟩ | ⟨ready, ok, rtr, h⟩ | ⟨ready, ok, rtr, zero, h⟩ |
    ⟨ready, ok, rtr, pos, h⟩ := txEdge_cases s.now s.beginCycle
  · rw [h]; exact .quiet busy
  · rw [h]; exact .ends (.notSent tx ready ok)
  · rw [h]; exact .ends (.commandSent tx ready ok rtr)
  · rw [h]; exact .ends (.zeroTimeout tx ready ok rtr zero)
  · rw [h]; exact .awaitsReply tx ready ok rtr pos

theorem offersMatch_iff (s : State) : matchingFrame s.now s.beginCycle = true ↔ offersMatch s :=
  matchingFrame_iff s.now s.beginCycle

theorem edge_of_waitRsp {s : State} (wait : s.fsm = .waitRsp) :
    Edge s (waitRspEdge s.now s.beginCycle) := by
  have busy : s.fsm = .idle → s.now.cmdValid = false := fun idle => nomatch idle.symm.trans wait
  obtain ⟨hm, h⟩ | ⟨-, -, h⟩ | ⟨-, tick, before, h⟩ | ⟨hm, tick, last, h⟩ :=
    waitRspEdge_cases s.now s.beginCycle
  · rw [h]; exact .captures (.inl wait) ((offersMatch_iff s).1 hm)
  · rw [h]; exact .quiet busy
  · rw [h]; exact .counts wait tick before
  · have noMatch : ¬ offersMatch s := fun hmatch =>
      Bool.false_ne_true (hm.symm.trans ((offersMatch_iff s).2 hmatch))
    rw [h]; exact .ends (.lastTick wait noMatch tick last)

theorem edge_of_waitHb {s : State} (wait : s.fsm = .waitHb) :
    Edge s (waitHbEdge s.now s.beginCycle) := by
  have busy : s.fsm = .idle → s.now.cmdValid = false := fun idle => nomatch idle.symm.trans wait
  obtain ⟨hm, h⟩ | ⟨-, h⟩ := waitHbEdge_cases s.now s.beginCycle
  · rw [h]; exact .captures (.inr wait) ((offersMatch_iff s).1 hm)
  · rw [h]; exact .quiet busy

/-- An edge under reset gives every register its reset value. -/
theorem step_of_rst {s : State} (hrst : s.now.rst = true) :
    step s = .next s.beginCycle.resetRegisters := by
  simp [step, edge, hrst]

theorem edge_of_step {s t : State} (h : step s = .next t) (hrst : s.now.rst = false) :
    Edge s t := by
  obtain ⟨hr, -⟩ | ⟨-, idle, noOffer, rfl⟩ | ⟨-, idle, offer, hill, rfl⟩ |
    ⟨-, idle, offer, i, hdec, hexec⟩ | ⟨-, tx, rfl⟩ | ⟨-, wait, rfl⟩ | ⟨-, wait, rfl⟩ :=
    step_cases s t h
  · exact absurd (hrst.symm.trans hr) Bool.false_ne_true
  · exact .quiet fun _ => noOffer
  · exact .ends (.illegal idle offer ((legalWord_eq_false_iff s.now.cmd s.now.data).2 hill))
  · exact edge_of_accepted ⟨idle, offer, hdec⟩ hexec
  · exact edge_of_tx tx
  · exact edge_of_waitRsp wait
  · exact edge_of_waitHb wait

/-! ## Frames of the updates -/

theorem onlyChanges_refl (s : State) : onlyChanges [] s s := by
  intro r _
  cases r with
  | txBuf | rxBuf => exact fun _ => rfl
  | _ => rfl

theorem onlyChanges_clearReply (s : State) : onlyChanges [.rxBuf, .rxDlc] s s.clearReply := by
  intro r hr
  cases r with
  | rxBuf | rxDlc => exact absurd (by decide) hr
  | txBuf => exact fun _ => rfl
  | _ => rfl

theorem onlyChanges_startWait (s : State) (id : CanId) (f : Fsm) :
    onlyChanges [.waitId, .fsm] s (s.startWait id f) := by
  intro r hr
  cases r with
  | waitId | fsm => exact absurd (by decide) hr
  | txBuf | rxBuf => exact fun _ => rfl
  | _ => rfl

end Sys2Proof.Proofs

/-! The good states, and what a step can and cannot change (10_state.md R38; 43_exchange.md R108;
60_exceptions.md R111, R112). -/

namespace Sys2Proof.Proofs

open Sys2Proof.Machine Sys2Proof.Safety

/-! ## The invariant -/

/-- The part of the invariant that speaks of the registers alone, whatever the engine does. -/
structure GoodRegisters (s : State) : Prop where
  frameDlc_le : s.frameDlc.toNat ≤ 8
  rxDlc_le : s.rxDlc.toNat ≤ 8
  txBuf_wf : s.txBuf.wf = true
  rxBuf_wf : s.rxBuf.wf = true

theorem goodRegisters_beginCycle {s : State} (h : Inv s) : GoodRegisters s.beginCycle :=
  ⟨h.frameDlc_le, h.rxDlc_le, h.txBuf_wf, h.rxBuf_wf⟩

theorem goodRegisters_capture {s : State} (h : GoodRegisters s) (i : Inputs) :
    GoodRegisters (s.capture i) where
  frameDlc_le := h.frameDlc_le
  rxDlc_le := (ofNat_cappedDlc_toNat i.rxDlc).trans_le (Nat.min_le_right _ _)
  txBuf_wf := h.txBuf_wf
  rxBuf_wf := Memory.wf_ofPayload _ _ (Nat.min_le_right _ _)

/-- What an operation writes before it completes keeps the lengths and the canonical form. -/
theorem goodRegisters_hostWrite {s u : State} {o : Opcode} (h : GoodRegisters s)
    (w : HostWrite s o u) : GoodRegisters u := by
  cases w with
  | nothing => exact h
  | header | result | timeout | policy =>
    exact ⟨h.frameDlc_le, h.rxDlc_le, h.txBuf_wf, h.rxBuf_wf⟩
  | noPayload => exact ⟨Nat.zero_le 8, h.rxDlc_le, Memory.wf_zeroed, h.rxBuf_wf⟩
  | @length len le =>
    have hlen : (BitVec.ofNat 4 len).toNat ≤ 8 := by
      rw [BitVec.toNat_ofNat]
      exact (Nat.mod_le _ _).trans le
    exact ⟨hlen, h.rxDlc_le, h.txBuf_wf, h.rxBuf_wf⟩
  | field _ fits v =>
    exact ⟨h.frameDlc_le, h.rxDlc_le, Memory.wf_writeLE _ _ _ v fits h.txBuf_wf, h.rxBuf_wf⟩

theorem code_bits_le (c : Code) : c.bits.toNat ≤ 11 := by
  cases c <;> decide

/-- In IDLE only the registers and the code are left of the invariant. -/
theorem inv_of_idle {s : State} (h : GoodRegisters s) (idle : s.fsm = .idle)
    (code : s.lastCode.toNat ≤ 11) : Inv s where
  frameDlc_le := h.frameDlc_le
  rxDlc_le := h.rxDlc_le
  tick_lt := by simp [idle]
  rsp_idle := fun _ => idle
  code_le := code
  txBuf_wf := h.txBuf_wf
  rxBuf_wf := h.rxBuf_wf
  exchange_header := by simp [idle]
  wait_is_query := by simp [idle]
  heartbeat_id := by simp [idle]
  reply_zero := by simp [idle]

theorem inv_complete {s : State} (h : GoodRegisters s) (c : Code) : Inv (s.complete c) :=
  inv_of_idle ⟨h.frameDlc_le, h.rxDlc_le, h.txBuf_wf, h.rxBuf_wf⟩ rfl (code_bits_le c)

theorem inv_resetRegisters (s : State) : Inv s.resetRegisters :=
  inv_of_idle ⟨Nat.zero_le 8, Nat.zero_le 8, Memory.wf_zeroed, Memory.wf_zeroed⟩ rfl
    (Nat.zero_le 11)

/-- The end of the completion pulse keeps a good state good. -/
theorem inv_beginCycle {s : State} (h : Inv s) : Inv s.beginCycle where
  frameDlc_le := h.frameDlc_le
  rxDlc_le := h.rxDlc_le
  tick_lt := h.tick_lt
  rsp_idle := nofun
  code_le := h.code_le
  txBuf_wf := h.txBuf_wf
  rxBuf_wf := h.rxBuf_wf
  exchange_header := h.exchange_header
  wait_is_query := h.wait_is_query
  heartbeat_id := h.heartbeat_id
  reply_zero := h.reply_zero

section
variable {s : State}

/-- XCHG of a command enters TX with the reply buffer as it was. -/
theorem inv_sends_command (h : Inv s) (noPulse : s.rspV = false) (valid : s.frameValid = true)
    (rtr : s.frameRtr = false) : Inv (s.startWait s.frameId .tx) where
  frameDlc_le := h.frameDlc_le
  rxDlc_le := h.rxDlc_le
  tick_lt := nofun
  rsp_idle := by simp [noPulse]
  code_le := h.code_le
  txBuf_wf := h.txBuf_wf
  rxBuf_wf := h.rxBuf_wf
  exchange_header := fun _ => ⟨valid, rfl⟩
  wait_is_query := nofun
  heartbeat_id := nofun
  reply_zero := by simp [rtr]

/-- XCHG of a query and HB_WAIT start from a zeroed reply buffer. -/
theorem inv_startWait_clearReply (h : Inv s) (noPulse : s.rspV = false) {id : CanId} {f : Fsm}
    (header : f = .tx → s.frameValid = true ∧ id = s.frameId)
    (heartbeat : f = .waitHb → id.extractLsb' 0 5 = 1) (notRsp : f ≠ .waitRsp) :
    Inv (s.clearReply.startWait id f) where
  frameDlc_le := h.frameDlc_le
  rxDlc_le := Nat.zero_le 8
  tick_lt := fun hf => absurd hf notRsp
  rsp_idle := by simp [noPulse]
  code_le := h.code_le
  txBuf_wf := h.txBuf_wf
  rxBuf_wf := Memory.wf_zeroed
  exchange_header := fun hf => header (hf.resolve_right notRsp)
  wait_is_query := fun hf => absurd hf notRsp
  heartbeat_id := heartbeat
  reply_zero := fun _ => ⟨Memory.readByte_zeroed, rfl⟩

theorem inv_startReplyWait (h : Inv s) (noPulse : s.rspV = false) (tx : s.fsm = .tx)
    (rtr : s.frameRtr = true) (pos : s.timeoutMs ≠ 0) : Inv s.startReplyWait where
  frameDlc_le := h.frameDlc_le
  rxDlc_le := h.rxDlc_le
  tick_lt := fun _ => Nat.pos_of_ne_zero fun h0 => pos (BitVec.eq_of_toNat_eq h0)
  rsp_idle := by simp [noPulse]
  code_le := h.code_le
  txBuf_wf := h.txBuf_wf
  rxBuf_wf := h.rxBuf_wf
  exchange_header := fun _ => h.exchange_header (.inl tx)
  wait_is_query := fun _ => rtr
  heartbeat_id := nofun
  reply_zero := fun _ => h.reply_zero (.inr (.inr ⟨tx, rtr⟩))

theorem inv_countTick (h : Inv s) (before : s.tickCnt.toNat + 1 < s.timeoutMs.toNat) :
    Inv s.countTick where
  frameDlc_le := h.frameDlc_le
  rxDlc_le := h.rxDlc_le
  tick_lt := fun _ => (countTick_tickCnt_toNat s before).trans_lt before
  rsp_idle := h.rsp_idle
  code_le := h.code_le
  txBuf_wf := h.txBuf_wf
  rxBuf_wf := h.rxBuf_wf
  exchange_header := h.exchange_header
  wait_is_query := h.wait_is_query
  heartbeat_id := h.heartbeat_id
  reply_zero := h.reply_zero

end

/-- The command id of a heartbeat (43_exchange.md R104). -/
theorem heartbeatId_command (axis : Nat) : (heartbeatId axis).extractLsb' 0 5 = 1 := by
  rw [heartbeatId, BitVec.extractLsb'_append_eq_of_add_le (by decide), BitVec.extractLsb'_eq_self]
  rfl

/-- Every kind of edge keeps a good state good. -/
theorem inv_of_edge {s t : State} (h : Inv s) (e : Edge s t) : Inv t := by
  have hb := inv_beginCycle h
  have hr := goodRegisters_beginCycle h
  cases e with
  | quiet => exact hb
  | ends => exact inv_complete hr _
  | captures => exact inv_complete (goodRegisters_capture hr s.now) .ok
  | writes _ _ write => exact inv_complete (goodRegisters_hostWrite hr write) .ok
  | sends _ valid =>
    cases rtr : s.frameRtr with
    | true =>
      rw [sending_of_query rtr]
      exact inv_startWait_clearReply hb rfl (fun _ => ⟨valid, rfl⟩) nofun nofun
    | false =>
      rw [sending_of_command rtr]
      exact inv_sends_command hb rfl valid rtr
  | listens => exact inv_startWait_clearReply hb rfl nofun (fun _ => heartbeatId_command _) nofun
  | awaitsReply tx _ _ rtr pos => exact inv_startReplyWait hb rfl tx rtr pos
  | counts _ _ before => exact inv_countTick hb before

/-- Settles O46: a reset edge ends in a good state from any state, and every other edge is of one of
the kinds of `Edge`. -/
theorem everyStepKeepsTheInvariant : Obligations.EveryStepKeepsTheInvariant := by
  unfold Obligations.EveryStepKeepsTheInvariant
  intro s t h hstep
  cases hrst : s.now.rst with
  | false => exact inv_of_edge h (edge_of_step hstep hrst)
  | true =>
    obtain rfl := (next_inj _ _).1 ((step_of_rst hrst).symm.trans hstep)
    exact inv_resetRegisters s.beginCycle

/-- Settles O47: the reset state is what a reset edge leaves. -/
theorem resetStateIsGood : Obligations.ResetStateIsGood :=
  inv_resetRegisters State.reset

/-! ## Totality -/

theorem step_total (s : State) : ∃ t, step s = .next t := by
  cases hrst : s.now.rst with
  | true => exact ⟨_, step_of_rst hrst⟩
  | false =>
    cases hfsm : s.fsm with
    | tx => exact ⟨_, step_of_tx hfsm hrst⟩
    | waitRsp => exact ⟨_, step_of_waitRsp hfsm hrst⟩
    | waitHb => exact ⟨_, step_of_waitHb hfsm hrst⟩
    | idle =>
      rw [step_of_idle hfsm hrst, idleEdge]
      split
      · split
        next i _ => exact (exec_effect i s.beginCycle).imp fun _ h => h.1
        next => exact ⟨_, raise_eq _ _⟩
      · exact ⟨_, rfl⟩

/-- Settles O45: every operation has an effect, and every branch of the step answers. -/
theorem noStepEverStops : Obligations.NoStepEverStops := by
  unfold Obligations.NoStepEverStops
  exact ⟨step_total, fun i s => (exec_effect i s).imp fun _ h => h.1⟩

end Sys2Proof.Proofs

/-! The statements about single steps: reset and acceptance, the ports, and what each kind of edge
leaves unchanged. -/

namespace Sys2Proof.Proofs

open Sys2Proof.Machine Sys2Proof.Safety

/-! ## Reset and acceptance -/

theorem onlyChanges_resetRegisters (s : State) :
    onlyChanges [.cfg, .inputs, .cycle] State.reset s.resetRegisters := by
  intro r hr
  cases r with
  | cfg | inputs | cycle => exact absurd (by decide) hr
  | txBuf | rxBuf => exact fun _ => rfl
  | _ => rfl

/-- Settles O2: the reset branch comes before the branch on FSM, and the three ports are gated by
`rst` (90_conflicts.md C8). -/
theorem resetEdgeRestoresEveryRegister : Obligations.ResetEdgeRestoresEveryRegister := by
  unfold Obligations.ResetEdgeRestoresEveryRegister
  intro s hrst
  exact ⟨⟨_, step_of_rst hrst, onlyChanges_resetRegisters s.beginCycle, rfl⟩, Bool.and_false _,
    Bool.and_false _, Bool.and_false _⟩

theorem idleEdge_of_op {i : Inputs} {op : Instr} (s : State) (hvalid : i.cmdValid = true)
    (hdec : decode i.cmd i.data = .op op) : idleEdge i s = exec op s := by
  simp [idleEdge, hvalid, hdec]

theorem idleEdge_without_offer {i : Inputs} (s : State) (hvalid : i.cmdValid = false) :
    idleEdge i s = .next s := by
  simp [idleEdge, hvalid]

/-- The accepting edge runs the operation on the state in which the pulse has ended. -/
theorem step_of_accepted {s : State} {i : Instr} (acc : accepted s i)
    (hrst : s.now.rst = false) : step s = exec i s.beginCycle := by
  obtain ⟨idle, offer, hdec⟩ := acc
  rw [step_of_idle idle hrst, idleEdge_of_op s.beginCycle offer hdec]

/-- Settles O3: in IDLE an offered operation takes the accepting branch. -/
theorem stepRunsTheAcceptedOperation : Obligations.StepRunsTheAcceptedOperation := by
  unfold Obligations.StepRunsTheAcceptedOperation
  intro s i idle hrst offer hdec
  exact ⟨step_of_accepted ⟨idle, offer, hdec⟩ hrst, rfl, rfl, rfl, onlyChanges_beginCycle s⟩

/-- Settles O4: without an offer the edge is what every cycle does before its branch. -/
theorem idleCycleWithoutOfferChangesNothing : Obligations.IdleCycleWithoutOfferChangesNothing := by
  unfold Obligations.IdleCycleWithoutOfferChangesNothing
  intro s idle hrst noOffer
  exact ⟨_, (step_of_idle idle hrst).trans (idleEdge_without_offer _ noOffer), rfl,
    onlyChanges_beginCycle s⟩

/-- Settles O35: the check of FRAME_VALID, then the wait, from a zeroed reply buffer for a query. -/
theorem xchgStartsSendingTheFrame : Obligations.XchgStartsSendingTheFrame := by
  unfold Obligations.XchgStartsSendingTheFrame
  refine ⟨decode_xchg, fun s => ⟨fun h => only_completes (exec_xchg_without_frame h), ?_, ?_⟩⟩
  · intro valid rtr
    have hexec := exec_xchg_with_frame valid
    rw [if_neg (Bool.eq_false_iff.1 rtr)] at hexec
    exact ⟨_, hexec, rfl, rfl, onlyChanges_startWait s _ _⟩
  · intro valid rtr
    have hexec := exec_xchg_with_frame valid
    rw [if_pos rtr] at hexec
    exact ⟨_, hexec, rfl, rfl, Memory.readByte_zeroed, rfl,
      onlyChanges_trans (onlyChanges_clearReply s) (onlyChanges_startWait _ _ _)⟩

/-- Settles O36: the identifier is the axis composed with the command id 0x001. -/
theorem hbWaitStartsWaitingForTheAxis : Obligations.HbWaitStartsWaitingForTheAxis := by
  unfold Obligations.HbWaitStartsWaitingForTheAxis
  refine ⟨fun d => highHalf_eq d ▸ decode_hbWait d, fun s axis =>
    ⟨fun above => only_completes (exec_hbWait_above s above), fun le => ?_⟩⟩
  exact ⟨_, exec_hbWait_in_range s le, rfl, composeId_eq_ofNat le (by decide),
    Memory.readByte_zeroed, rfl,
    onlyChanges_trans (onlyChanges_clearReply s) (onlyChanges_startWait _ _ _)⟩

/-! ## The ports -/

theorem isWait_iff (f : Fsm) : f.isWait = true ↔ f = .waitRsp ∨ f = .waitHb := by
  cases f <;> decide

/-- A port gated by `rst` (90_conflicts.md C8). -/
theorem gated_iff (b rst : Bool) : (b && !rst) = true ↔ b = true ∧ rst = false := by
  rw [Bool.and_eq_true_iff, Bool.not_eq_true']

/-- Settles O55: the flat ports are their registers, and the gated ones and the payload have their
own lemmas. -/
theorem outputPortsShowTheirRegisters : Obligations.OutputPortsShowTheirRegisters := by
  unfold Obligations.OutputPortsShowTheirRegisters
  intro s rst
  refine ⟨?_, rfl, rfl, rfl, decide_eq_true_iff, ?_, rfl, rfl, rfl,
    fun k hk => toPayload_byte s.txBuf hk, ?_⟩
  · exact (gated_iff _ rst).trans (and_congr_left' decide_eq_true_iff)
  · exact (gated_iff _ rst).trans (and_congr_left' decide_eq_true_iff)
  · exact (gated_iff _ rst).trans (and_congr_left' (isWait_iff s.fsm))

/-- A port that shows a buffer shows its bytes and nothing more. -/
theorem toPayload_congr {m m' : Memory} (h : ∀ a, m'.readByte a = m.readByte a) :
    m'.toPayload = m.toPayload :=
  congrArg (BitVec.ofNat 64) (Memory.readLE_congr 8 m' m 0 0 fun k _ => h (0 + k))

/-! ## Inputs that are not read -/

theorem edge_readInputs (i : Inputs) (s : State) : edge (readInputs s.fsm i) s = edge i s := by
  cases hrst : i.rst with
  | true => simp [edge, readInputs, hrst]
  | false =>
    cases hfsm : s.fsm with
    | idle => cases hc : i.cmdValid <;> simp [edge, readInputs, idleEdge, hrst, hfsm, hc]
    | tx => cases hready : i.txReady <;> simp [edge, readInputs, txEdge, hrst, hfsm, hready]
    | waitRsp =>
      cases hv : i.rxValid <;>
        simp [edge, readInputs, waitRspEdge, matchingFrame, State.capture, hrst, hfsm, hv]
    | waitHb =>
      cases hv : i.rxValid <;>
        simp [edge, readInputs, waitHbEdge, matchingFrame, State.capture, hrst, hfsm, hv]

/-- Settles O49: the inputs of the cycle reach the step only through its branch. -/
theorem inputsNotReadHaveNoEffect : Obligations.InputsNotReadHaveNoEffect := by
  unfold Obligations.InputsNotReadHaveNoEffect
  intro s i rest
  exact (edge_readInputs i { s with inputs := i :: rest }.beginCycle).symm

/-! ## What a kind of edge leaves in the state -/

theorem onlyChanges_startListening (s : State) (id : CanId) (f : Fsm) :
    onlyChanges (.rxBuf :: .rxDlc :: .waitId :: .fsm :: cycleRegs) s
      (s.beginCycle.clearReply.startWait id f) :=
  onlyChanges_of_branch
    (onlyChanges_trans (onlyChanges_clearReply _) (onlyChanges_startWait _ id f)) (by decide)

theorem onlyChanges_sending_command {s : State} (rtr : s.frameRtr = false) :
    onlyChanges (.waitId :: .fsm :: cycleRegs) s (sending s) := by
  rw [sending_of_command rtr]
  exact onlyChanges_of_branch (onlyChanges_startWait _ _ _) (by decide)

theorem onlyChanges_sending (s : State) :
    onlyChanges (.rxBuf :: .rxDlc :: .waitId :: .fsm :: cycleRegs) s (sending s) := by
  cases rtr : s.frameRtr with
  | true => exact sending_of_query rtr ▸ onlyChanges_startListening s s.frameId .tx
  | false => exact onlyChanges_mono (by decide) (onlyChanges_sending_command rtr)

theorem sending_rspV (s : State) : (sending s).rspV = false := by
  cases rtr : s.frameRtr with
  | true => rw [sending_of_query rtr]; rfl
  | false => rw [sending_of_command rtr]; rfl

theorem same_of_writers {s u : State} {o : Opcode} {r : Reg} {l : List Reg}
    (frame : onlyChanges l s u) (writers : ∀ r ∈ l, o ∈ writersOf r) (h : o ∉ writersOf r) :
    r.same s u :=
  frame r fun hr => h (writers r hr)

/-- An operation writes only registers that name it as a writer. -/
theorem same_of_hostWrite {s u : State} {o : Opcode} {r : Reg} (w : HostWrite s o u)
    (h : o ∉ writersOf r) : r.same s u := by
  cases w with
  | nothing => exact onlyChanges_refl s r List.not_mem_nil
  | header id rtr => exact same_of_writers (onlyChanges_setHeader s id rtr) (by decide) h
  | result writer v => exact same_of_writers (onlyChanges_setResult s v) (by simpa using writer) h
  | noPayload =>
    exact same_of_writers (onlyChanges_trans (onlyChanges_setTxBuf s _) (onlyChanges_setDlc _ _))
      (by decide) h
  | length => exact same_of_writers (onlyChanges_setDlc s _) (by decide) h
  | field writer => exact same_of_writers (onlyChanges_setTxBuf s _) (by simpa using writer) h
  | timeout v => exact same_of_writers (onlyChanges_setTimeout s v) (by decide) h
  | policy y => exact same_of_writers (onlyChanges_setSilent s y) (by decide) h

/-- The frame of an accepted operation that writes and completes, register by register. -/
theorem same_of_accepted_write {s u : State} {o : Opcode} {r : Reg}
    (w : HostWrite s.beginCycle o u) (h : o ∉ writersOf r)
    (hr : r ∉ cycleRegs ++ completionRegs) : r.same s (u.complete .ok) := by
  have cycle := onlyChanges_beginCycle s r fun h => hr (List.mem_append_left _ h)
  have completion := onlyChanges_complete u .ok r fun h => hr (List.mem_append_right _ h)
  exact same_trans cycle (same_trans (same_of_hostWrite w h) completion)

/-- The registers the engine writes in the course of an exchange or a heartbeat wait. -/
def engineRegs : List Reg :=
  captureRegs ++ .waitId :: .tickCnt :: .inputs :: .cycle :: completionRegs

/-- Every edge without reset keeps the host's registers, but for an operation that writes its
own. -/
theorem edge_frame {s t : State} (e : Edge s t) :
    onlyChanges engineRegs s t ∨
      ∃ i u, accepted s i ∧ HostWrite s.beginCycle i.opcode u ∧ t = u.complete .ok := by
  cases e with
  | quiet => exact .inl (onlyChanges_mono (by decide) (onlyChanges_beginCycle s))
  | ends => exact .inl (onlyChanges_mono (by decide) (completes_at_edge s _).2)
  | captures => exact .inl (onlyChanges_mono (by decide) (captures_at_edge s s.now).2.2)
  | writes acc _ write => exact .inr ⟨_, _, acc, write, rfl⟩
  | sends => exact .inl (onlyChanges_mono (by decide) (onlyChanges_sending s))
  | listens => exact .inl (onlyChanges_mono (by decide) (onlyChanges_startListening s _ _))
  | awaitsReply => exact .inl (onlyChanges_of_branch (onlyChanges_startReplyWait _) (by decide))
  | counts => exact .inl (onlyChanges_of_branch (onlyChanges_countTick _) (by decide))

/-- Settles O51: no other edge than an accepted write reaches a register of the host, and a write
reaches those that name its operation. -/
theorem registersAreWrittenOnlyByTheirOperations :
    Obligations.RegistersAreWrittenOnlyByTheirOperations := by
  unfold Obligations.RegistersAreWrittenOnlyByTheirOperations
  intro s t r hr hstep hrst changed
  have notEngine : ∀ r ∈ hostRegs, r ∉ engineRegs := by decide
  have notCompletion : ∀ r ∈ hostRegs, r ∉ cycleRegs ++ completionRegs := by decide
  obtain frame | ⟨i, u, ⟨idle, offer, hdec⟩, write, rfl⟩ := edge_frame (edge_of_step hstep hrst)
  · exact absurd (frame r (notEngine r hr)) changed
  · refine ⟨idle, offer, completed_complete u .ok, i, hdec, ?_⟩
    by_contra notWriter
    exact changed (same_of_accepted_write write notWriter (notCompletion r hr))

/-- A reply register that changes where the reply buffer is zeroed is one of the two zeroed ones. -/
theorem zeroed_of_changed {s t : State} {r : Reg} (hr : r ∈ captureRegs)
    (frame : onlyChanges (.rxBuf :: .rxDlc :: .waitId :: .fsm :: cycleRegs) s t)
    (changed : ¬ r.same s t) : r = .rxBuf ∨ r = .rxDlc := by
  have others : ∀ r ∈ captureRegs, r ≠ .rxBuf → r ≠ .rxDlc →
      r ∉ .rxBuf :: .rxDlc :: .waitId :: .fsm :: cycleRegs := by decide
  by_contra h
  rw [not_or] at h
  exact changed (frame r (others r hr h.1 h.2))

/-- Settles O52: a capture and the acceptance of a query or of a heartbeat wait are the only kinds
of edge that reach a reply register. -/
theorem replyIsWrittenOnlyByWaits : Obligations.ReplyIsWrittenOnlyByWaits := by
  unfold Obligations.ReplyIsWrittenOnlyByWaits
  intro s t r hr hstep hrst changed
  have notCycle : ∀ r ∈ captureRegs, r ∉ cycleRegs := by decide
  have notCompletion : ∀ r ∈ captureRegs, r ∉ .inputs :: .cycle :: completionRegs := by decide
  cases edge_of_step hstep hrst with
  | quiet => exact absurd (onlyChanges_beginCycle s r (notCycle r hr)) changed
  | ends => exact absurd ((completes_at_edge s _).2 r (notCompletion r hr)) changed
  | captures wait isMatch =>
    exact .inl ⟨wait, isMatch.1, isMatch.2, (captures_at_edge s s.now).2.1⟩
  | writes _ _ write =>
    have notWritten : ∀ r ∈ captureRegs, writersOf r = [] := by decide
    have kept : ∀ r ∈ captureRegs, r ∉ cycleRegs ++ completionRegs := by decide
    refine absurd (same_of_accepted_write write ?_ (kept r hr)) changed
    rw [notWritten r hr]
    exact List.not_mem_nil
  | sends acc =>
    cases rtr : s.frameRtr with
    | true =>
      have zeroed := zeroed_of_changed hr (onlyChanges_sending s) changed
      rw [sending_of_query rtr]
      exact .inr ⟨acc.1, .inl ⟨rfl, rtr⟩, zeroed, Memory.readByte_zeroed, rfl⟩
    | false =>
      have keeps : ∀ r ∈ captureRegs, r ∉ .waitId :: .fsm :: cycleRegs := by decide
      exact absurd (onlyChanges_sending_command rtr r (keeps r hr)) changed
  | listens acc =>
    exact .inr ⟨acc.1, .inr rfl, zeroed_of_changed hr (onlyChanges_startListening s _ _) changed,
      Memory.readByte_zeroed, rfl⟩
  | awaitsReply =>
    have keeps : ∀ r ∈ captureRegs, r ∉ cycleRegs ++ [.fsm, .tickCnt] := by decide
    exact absurd (onlyChanges_trans (onlyChanges_beginCycle s) (onlyChanges_startReplyWait _) r
      (keeps r hr)) changed
  | counts =>
    have keeps : ∀ r ∈ captureRegs, r ∉ cycleRegs ++ [.tickCnt] := by decide
    exact absurd (onlyChanges_trans (onlyChanges_beginCycle s) (onlyChanges_countTick _) r
      (keeps r hr)) changed

/-- Out of IDLE nothing is accepted, so WAIT_ID stays too. -/
theorem busy_edge_frame {s t : State} (busy : s.fsm ≠ .idle) (e : Edge s t) :
    onlyChanges (captureRegs ++ .tickCnt :: .inputs :: .cycle :: completionRegs) s t := by
  cases e with
  | quiet => exact onlyChanges_mono (by decide) (onlyChanges_beginCycle s)
  | ends => exact onlyChanges_mono (by decide) (completes_at_edge s _).2
  | captures => exact onlyChanges_mono (by decide) (captures_at_edge s s.now).2.2
  | writes acc => exact absurd acc.1 busy
  | sends acc => exact absurd acc.1 busy
  | listens acc => exact absurd acc.1 busy
  | awaitsReply => exact onlyChanges_of_branch (onlyChanges_startReplyWait _) (by decide)
  | counts => exact onlyChanges_of_branch (onlyChanges_countTick _) (by decide)

/-- Settles O50: the frame of a busy edge holds every register that the transmit port shows. -/
theorem busyEngineKeepsTheFrame : Obligations.BusyEngineKeepsTheFrame := by
  unfold Obligations.BusyEngineKeepsTheFrame
  intro s t busy hrst hstep
  have frame := busy_edge_frame busy (edge_of_step hstep hrst)
  exact ⟨(outputs_cmdReady s).trans (decide_eq_false busy), decide_eq_true busy, frame,
    frame .frameId (by decide), frame .frameRtr (by decide), frame .frameDlc (by decide),
    toPayload_congr (frame .txBuf (by decide))⟩

/-! ## Transitions and completions -/

theorem offer_of_ends {s : State} {c : Code} (h : Ends s c) (idle : s.fsm = .idle) :
    s.now.cmdValid = true := by
  cases h with
  | illegal _ offer => exact offer
  | fails acc => exact acc.2.1
  | notSent tx => exact nomatch idle.symm.trans tx
  | commandSent tx => exact nomatch idle.symm.trans tx
  | zeroTimeout tx => exact nomatch idle.symm.trans tx
  | lastTick wait => exact nomatch idle.symm.trans wait

/-- Settles O48: a quiet edge and a counted tick keep FSM, an edge that completes ends in IDLE, and
the other three kinds are the transitions into TX, WAIT_RSP and WAIT_HB. -/
theorem engineTakesOnlyTheListedTransitions :
    Obligations.EngineTakesOnlyTheListedTransitions := by
  unfold Obligations.EngineTakesOnlyTheListedTransitions
  intro s t hstep hrst changed
  cases edge_of_step hstep hrst with
  | quiet => exact absurd rfl changed
  | counts => exact absurd rfl changed
  | writes acc => exact absurd acc.1.symm changed
  | sends acc valid => exact .inl ⟨acc.1, rfl, valid, acc.2.1, acc.2.2⟩
  | listens acc le => exact .inr (.inl ⟨acc.1, rfl, acc.2.1, _, le, acc.2.2⟩)
  | awaitsReply tx ready ok rtr pos =>
    have positive : 0 < s.timeoutMs.toNat :=
      Nat.pos_of_ne_zero fun h => pos (BitVec.eq_of_toNat_eq h)
    exact .inr (.inr (.inr (.inl ⟨tx, rfl, ready, ok, rtr, positive⟩)))
  | captures wait isMatch =>
    obtain rsp | hb := wait
    · exact .inr (.inr (.inr (.inr (.inl ⟨rsp, rfl, rfl, .inl isMatch⟩))))
    · exact .inr (.inr (.inr (.inr (.inr ⟨hb, rfl, rfl, isMatch⟩))))
  | ends cause =>
    cases cause with
    | illegal idle => exact absurd idle.symm changed
    | fails acc => exact absurd acc.1.symm changed
    | notSent tx ready ok => exact .inr (.inr (.inl ⟨tx, rfl, ready, rfl, .inl ok⟩))
    | commandSent tx ready _ rtr =>
      exact .inr (.inr (.inl ⟨tx, rfl, ready, rfl, .inr (.inl rtr)⟩))
    | zeroTimeout tx ready _ _ zero =>
      exact .inr (.inr (.inl ⟨tx, rfl, ready, rfl, .inr (.inr zero)⟩))
    | lastTick wait _ tick last =>
      exact .inr (.inr (.inr (.inr (.inl ⟨wait, rfl, rfl, .inr ⟨tick, last⟩⟩))))

/-- An edge that completes nothing leaves RSP_V at 0 and, out of IDLE, does not return there. -/
def endsNoOperation (s t : State) : Prop := t.rspV = false ∧ (s.fsm ≠ .idle → t.fsm ≠ .idle)

/-- An edge that completes an operation: in IDLE it was offered in that cycle. -/
def endsAnOperation (s t : State) : Prop :=
  t.rspV = true ∧ t.fsm = .idle ∧ (s.fsm = .idle → s.now.cmdValid = true)

theorem edge_pulse {s t : State} (e : Edge s t) : endsNoOperation s t ∨ endsAnOperation s t := by
  cases e with
  | quiet => exact .inl ⟨rfl, id⟩
  | ends cause => exact .inr ⟨rfl, rfl, offer_of_ends cause⟩
  | captures wait =>
    refine .inr ⟨rfl, rfl, fun idle => ?_⟩
    rw [idle] at wait
    exact wait.elim nofun nofun
  | writes acc => exact .inr ⟨rfl, rfl, fun _ => acc.2.1⟩
  | sends => exact .inl ⟨sending_rspV s, nofun⟩
  | listens => exact .inl ⟨rfl, nofun⟩
  | awaitsReply => exact .inl ⟨rfl, nofun⟩
  | counts => exact .inl ⟨rfl, id⟩

/-- Settles O56: a kind of edge either completes an operation, with the pulse and in IDLE, or does
neither; a reset edge clears the pulse. -/
theorem completionPulseLastsOneCycle : Obligations.CompletionPulseLastsOneCycle := by
  unfold Obligations.CompletionPulseLastsOneCycle
  intro s t hstep
  cases hrst : s.now.rst with
  | true =>
    obtain rfl := (next_inj _ _).1 ((step_of_rst hrst).symm.trans hstep)
    exact ⟨nofun, fun _ => rfl, fun _ => rfl, fun _ _ h => nomatch h⟩
  | false =>
    obtain ⟨noPulse, stays⟩ | ⟨pulse, idle, offer⟩ := edge_pulse (edge_of_step hstep hrst)
    · exact ⟨fun h => absurd (noPulse.symm.trans h) Bool.false_ne_true, fun _ => noPulse, nofun,
        fun busy idle _ => absurd idle (stays busy)⟩
    · exact ⟨fun _ => ⟨idle, rfl, offer⟩, fun busy => absurd idle busy, nofun,
        fun _ _ _ => pulse⟩

/-- Settles O53: every kind of edge that writes something else completes with OK or not at all. -/
theorem failureWritesOnlyTheCompletion : Obligations.FailureWritesOnlyTheCompletion := by
  unfold Obligations.FailureWritesOnlyTheCompletion
  intro s t hstep hrst pulse notOk
  cases edge_of_step hstep hrst with
  | ends => exact ⟨rfl, (completes_at_edge s _).2⟩
  | captures => exact absurd rfl notOk
  | writes => exact absurd rfl notOk
  | sends => exact absurd ((sending_rspV s).symm.trans pulse) Bool.false_ne_true
  | quiet => exact nomatch pulse
  | listens => exact nomatch pulse
  | awaitsReply => exact nomatch pulse
  | counts => exact nomatch pulse

/-! ## Result codes -/

/-- The failures of an operation that has an encoding are among the codes of its row in R111. -/
theorem mem_codesOf_of_failsWith {i : Instr} {s : State} {c : Code} (wf : i.wellFormed = true)
    (h : failsWith i s c) : c ∈ codesOf i.opcode := by
  cases c with
  | errAxis =>
    obtain ⟨axis, -, rfl | ⟨q, cid, rfl⟩⟩ := h
    · simp [codesOf, Instr.opcode]
    · simp [codesOf, Instr.opcode]
  | errCmd => obtain ⟨q, axis, cid, rfl, -⟩ := h; simp [codesOf, Instr.opcode]
  | errId => obtain ⟨v, rfl, -⟩ := h; simp [codesOf, Instr.opcode]
  | errDlc => obtain ⟨len, rfl, -⟩ := h; simp [codesOf, Instr.opcode]
  | errNoFrame => obtain ⟨rfl, -⟩ := h; simp [codesOf, Instr.opcode]
  | errRange =>
    obtain ⟨ms, rfl, -⟩ | ⟨off, x, -, ⟨rfl, -⟩ | ⟨rfl, -⟩⟩ := h
    · simp [codesOf, Instr.opcode]
    · simp [codesOf, Instr.opcode]
    · simp [codesOf, Instr.opcode]
  | errOffset =>
    obtain ⟨off, n, hfield, past⟩ := h
    have oneByteFits (fits : offsetFits off = true) : ¬ 8 < off + 1 :=
      Nat.not_lt.2 (of_decide_eq_true fits)
    cases i with
    | packU8 | packFf8 | unpackU8 => cases hfield; exact absurd past (oneByteFits wf)
    | packI16 | packI32 | packU32 | packF32 | packFf16 => simp [codesOf, Instr.opcode]
    | unpackI16 | unpackI32 | unpackU32 | unpackF32 | unpackFf16 => simp [codesOf, Instr.opcode]
    | _ => cases hfield
  | ok | timeout | defaulted | errSend | illegal => exact h.elim

theorem ok_mem_codesOf_of_hostWrite {s u : State} {o : Opcode} (w : HostWrite s o u) :
    Code.ok ∈ codesOf o := by
  have ofResult : ∀ o ∈ writersOf .result, Code.ok ∈ codesOf o := by decide
  have ofTxBuf : ∀ o ∈ writersOf .txBuf, Code.ok ∈ codesOf o := by decide
  cases w with
  | result writer => exact ofResult o writer
  | field writer => exact ofTxBuf o writer
  | nothing | header | noPayload | length | timeout | policy => decide

theorem timeoutCode_cases (s : State) :
    timeoutCode s = .timeout ∧ s.silent = false ∨ timeoutCode s = .defaulted ∧ s.silent = true := by
  cases h : s.silent with
  | false => exact .inl ⟨by rw [timeoutCode, h]; rfl, rfl⟩
  | true => exact .inr ⟨by rw [timeoutCode, h]; rfl, rfl⟩

/-- Settles O54: an edge that completes carries its cause, an accepted operation having the codes of
its row, and every other edge leaves RSP_V at 0. -/
theorem resultCodesComeFromTheirOperations : Obligations.ResultCodesComeFromTheirOperations := by
  unfold Obligations.ResultCodesComeFromTheirOperations
  intro s t hstep hrst pulse
  cases edge_of_step hstep hrst with
  | quiet => exact nomatch pulse
  | listens => exact nomatch pulse
  | awaitsReply => exact nomatch pulse
  | counts => exact nomatch pulse
  | sends => exact absurd ((sending_rspV s).symm.trans pulse) Bool.false_ne_true
  | writes acc passes write =>
    obtain ⟨idle, offer, hdec⟩ := acc
    exact ⟨.ok, rfl, code_bits_le _, .inr (.inl ⟨idle, offer, _, hdec,
      ok_mem_codesOf_of_hostWrite write, .inr ⟨rfl, passes⟩⟩)⟩
  | captures wait isMatch =>
    refine ⟨.ok, rfl, code_bits_le _, ?_⟩
    obtain rsp | hb := wait
    · exact .inr (.inr (.inr (.inl ⟨rsp, .inl ⟨rfl, isMatch⟩⟩)))
    · exact .inr (.inr (.inr (.inr ⟨hb, rfl, isMatch⟩)))
  | ends cause =>
    refine ⟨_, rfl, code_bits_le _, ?_⟩
    cases cause with
    | illegal idle offer illegal => exact .inl ⟨idle, offer, rfl, illegal⟩
    | fails acc cause =>
      obtain ⟨idle, offer, hdec⟩ := acc
      exact .inr (.inl ⟨idle, offer, _, hdec,
        mem_codesOf_of_failsWith (wellFormed_of_decode hdec) cause, .inl cause⟩)
    | notSent tx ready ok => exact .inr (.inr (.inl ⟨tx, ready, .inl ⟨rfl, ok⟩⟩))
    | commandSent tx ready ok rtr =>
      exact .inr (.inr (.inl ⟨tx, ready, .inr (.inl ⟨rfl, ok, rtr⟩)⟩))
    | zeroTimeout tx ready ok rtr zero =>
      exact .inr (.inr (.inl ⟨tx, ready, .inr (.inr ⟨ok, rtr, zero, timeoutCode_cases s⟩)⟩))
    | lastTick wait noMatch tick last =>
      exact .inr (.inr (.inr (.inl ⟨wait, .inr ⟨noMatch, tick, last, timeoutCode_cases s⟩⟩)))

end Sys2Proof.Proofs

/-! Reads after a wide write (20_memory.md R43, R44), operations issued twice (R50), and reads of a
reply buffer that is zero (42_unpack.md R87). -/

namespace Sys2Proof.Proofs

open Sys2Proof.Machine Sys2Proof.Safety

/-! ## Reads of a stored word -/

/-- The bytes of a part of a value are bytes of the value. -/
theorem extractLsb'_byte_of_part {w : Nat} (v : BitVec w) {k l j : Nat} (hj : j < l) :
    (v.extractLsb' (8 * k) (8 * l)).extractLsb' (8 * j) 8 = v.extractLsb' (8 * (k + j)) 8 := by
  apply BitVec.eq_of_getLsbD_eq
  intro b hb
  have inside : 8 * j + b < 8 * l := by omega
  simp [hb, inside, Nat.mul_add, Nat.add_assoc]

/-- A field that holds a value holds its parts. -/
theorem holdsField_part {w : Nat} {m : Memory} {off n k l : Nat} {v : BitVec w}
    (h : holdsField m off n v) (inside : k + l ≤ n) :
    holdsField m (off + k) l (v.extractLsb' (8 * k) (8 * l)) := by
  intro j hj
  rw [Nat.add_assoc, h (k + j) (by omega), extractLsb'_byte_of_part v hj]

theorem load_of_holdsField {m : Memory} {off n : Nat} {v : BitVec (8 * n)}
    (h : holdsField m off n v) (fits : off + n ≤ 8) : m.load off n = some v.toNat := by
  rw [Memory.load_eq, if_pos fits, readLE_of_holdsField h]

/-- The byte at an address after a store: the value's inside the field, the old one outside. -/
theorem readByte_of_storesBytes {w : Nat} {m m' : Memory} {off n : Nat} {v : BitVec w}
    (h : storesBytes m m' off n v) (a : Nat) :
    m'.readByte a =
      if off ≤ a ∧ a < off + n then v.extractLsb' (8 * (a - off)) 8 else m.readByte a := by
  obtain ⟨written, kept⟩ := h
  split
  next inside =>
    have hbyte := written (a - off) (by omega)
    rwa [Nat.add_sub_cancel' inside.1] at hbyte
  next outside => exact kept a (by omega)

/-- Settles O31: the parts of the field that the store fills, and the bytes of any read. -/
theorem narrowReadsSeeTheBytesOfAWord : Obligations.NarrowReadsSeeTheBytesOfAWord := by
  unfold Obligations.NarrowReadsSeeTheBytesOfAWord
  intro m off v fits
  have stored : storesBytes m (m.writeLE off 4 v.toNat) off 4 v := storesBytes_writeLE m off 4 v
  have part {k l : Nat} (inside : k + l ≤ 4) :
      (m.writeLE off 4 v.toNat).load (off + k) l = some (v.extractLsb' (8 * k) (8 * l)).toNat :=
    load_of_holdsField (holdsField_part stored.1 inside) (by omega)
  have half {k : Nat} (hk : k < 3) :
      (m.writeLE off 4 v.toNat).load (off + k) 2 = some (v.toNat / 256 ^ k % 65536) := by
    rw [part (show k + 2 ≤ 4 by omega), BitVec.extractLsb'_toNat, Nat.shiftRight_eq_div_pow,
      pow_mul]
    rfl
  have low := half (show 0 < 3 by decide)
  rw [pow_zero, Nat.div_one] at low
  refine ⟨_, (Memory.store_eq _ _ _ _).trans (if_pos fits), fun k hk => part hk, low,
    load_of_holdsField (n := 4) stored.1 fits, fun k hk => half hk, fun a n inside => ?_, stored.2⟩
  refine ⟨_, (Memory.load_eq _ a n).trans (if_pos inside), Memory.readLE_lt n _ a, fun k hk => ?_⟩
  rw [Memory.byte_readLE n _ a k hk, readByte_of_storesBytes stored]

/-! ## Operations issued twice -/

/-- The three shapes of a field operation, the same in every state. -/
theorem exec_eq_of_fieldOf {i : Instr} {off n : Nat} (h : fieldOf i = some (off, n)) :
    (∃ v, ∀ s, exec i s = packField off n v s) ∨
    (∃ x, ∀ s, exec i s = packScaled off n x s) ∨
    (∃ b value, ∀ s, exec i s = unpackField off n b value s) := by
  cases i with
  | packU8 | packI16 | packI32 | packU32 | packF32 => cases h; exact .inl ⟨_, fun _ => rfl⟩
  | packFf16 | packFf8 => cases h; exact .inr (.inl ⟨_, fun _ => rfl⟩)
  | unpackU8 | unpackI16 | unpackI32 | unpackU32 | unpackF32 | unpackFf16 =>
    cases h; exact .inr (.inr ⟨_, _, fun _ => rfl⟩)
  | _ => cases h

/-- Completing once more with the same code, where nothing else changed in between. -/
theorem onlyChanges_complete_again {s t : State} {c : Code}
    (h : onlyChanges completionRegs (s.complete c) t) :
    onlyChanges [] (s.complete c) (t.complete c) := by
  intro r _
  by_cases completion : r ∈ completionRegs
  · cases r with
    | lastCode | rspV | fsm => rfl
    | _ => exact absurd completion (by decide)
  · exact same_trans (h r completion) (onlyChanges_complete t c r completion)

/-- A failure that fails again. -/
theorem completes_again (s : State) (c : Code) :
    onlyChanges [] (s.complete c) ((s.complete c).complete c) :=
  onlyChanges_complete_again (onlyChanges_mono (List.nil_subset _) (onlyChanges_refl _))

/-- Writing a field twice leaves the bytes of writing it once. -/
theorem readByte_writeLE_writeLE (m : Memory) (off n v a : Nat) :
    ((m.writeLE off n v).writeLE off n v).readByte a = (m.writeLE off n v).readByte a := by
  by_cases inside : off ≤ a ∧ a < off + n
  · obtain ⟨k, rfl⟩ := Nat.exists_eq_add_of_le inside.1
    have hk : k < n := by omega
    rw [Memory.readByte_writeLE_inside n _ off v k hk,
      Memory.readByte_writeLE_inside n _ off v k hk]
  · exact Memory.readByte_writeLE_outside n _ off v a (by omega)

theorem onlyChanges_afterPack_again (s : State) (off n v : Nat) :
    onlyChanges [] (afterPack s off n v) (afterPack (afterPack s off n v) off n v) := by
  refine onlyChanges_complete_again fun r _ => ?_
  cases r with
  | txBuf => exact readByte_writeLE_writeLE s.txBuf off n v
  | rxBuf => exact fun _ => rfl
  | _ => rfl

/-- An operation that answers `t` answers the same registers from `t`. -/
def idempotent (f : State → Host.Outcome State Fault Refusal) : Prop :=
  ∀ s t, f s = .next t → ∃ u, f t = .next u ∧ onlyChanges [] t u

theorem packField_idempotent (off n v : Nat) : idempotent (packField off n v) := by
  intro s t h
  rw [packField_eq] at h
  split at h
  next fits =>
    obtain rfl := (next_inj _ _).1 h
    exact ⟨_, packField_in_buffer fits v _, onlyChanges_afterPack_again s off n v⟩
  next past =>
    obtain rfl := (next_inj _ _).1 h
    exact ⟨_, (packField_eq off n v _).trans (if_neg past), completes_again s .errOffset⟩

/-- The range check reads the data word and a parameter, which no operation writes. -/
theorem packScaled_idempotent (off n : Nat) (x : DataWord) : idempotent (packScaled off n x) := by
  intro s t h
  by_cases fits : off + n ≤ 8
  · cases hx : ffscale s.cfg.ffMul x with
    | none =>
      obtain rfl := (next_inj _ _).1 ((packScaled_out_of_range fits hx).symm.trans h)
      exact ⟨_, packScaled_out_of_range fits hx, completes_again s .errRange⟩
    | some v =>
      obtain rfl := (next_inj _ _).1 ((packScaled_in_range fits hx).symm.trans h)
      exact ⟨_, packScaled_in_range fits hx, onlyChanges_afterPack_again s off n v.toNat⟩
  · have past (s : State) : packScaled off n x s = .next (s.complete .errOffset) := by
      rw [packScaled_eq, if_neg fits]
    obtain rfl := (next_inj _ _).1 ((past s).symm.trans h)
    exact ⟨_, past _, completes_again s .errOffset⟩

/-- An UNPACK writes no buffer, so it reads the same field again. -/
theorem unpackField_idempotent (off n : Nat) (b : Buf) (value : Nat → DataWord) :
    idempotent (unpackField off n b value) := by
  intro s t h
  rw [unpackField_eq] at h
  split at h
  next fits =>
    obtain rfl := (next_inj _ _).1 h
    refine ⟨_, unpackField_in_buffer fits b value _, ?_⟩
    cases b <;> exact completes_again _ .ok
  next past =>
    obtain rfl := (next_inj _ _).1 h
    exact ⟨_, (unpackField_eq off n b value _).trans (if_neg past), completes_again s .errOffset⟩

theorem execIdEnc_idempotent (q : Bool) (axis cid : Nat) :
    idempotent (exec (.idEnc q axis cid)) := by
  intro s t h
  obtain ⟨ha, rfl⟩ | ⟨ha, hc, rfl⟩ | ⟨ha, hc, rfl⟩ := execIdEnc_cases q axis cid s t h
  · exact ⟨_, exec_idEnc_axis_above _ q cid ha, completes_again s .errAxis⟩
  · exact ⟨_, exec_idEnc_command_above _ q ha hc, completes_again s .errCmd⟩
  · exact ⟨_, exec_idEnc_in_range _ q ha hc, completes_again _ .ok⟩

/-- ID_DEC writes neither RX_ID nor FRAME_ID. -/
theorem execIdDec_idempotent (src : IdSrc) : idempotent (exec (.idDec src)) := by
  intro s t h
  cases src with
  | rx =>
    obtain rfl := (next_inj _ _).1 ((exec_idDec_rx s).symm.trans h)
    exact ⟨_, exec_idDec_rx _, completes_again _ .ok⟩
  | frame =>
    obtain rfl := (next_inj _ _).1 ((exec_idDec_frame s).symm.trans h)
    exact ⟨_, exec_idDec_frame _, completes_again _ .ok⟩
  | value v =>
    obtain above | inRange := Nat.lt_or_ge 0x7FF v.toNat
    · obtain rfl := (next_inj _ _).1 ((exec_idDec_above_id s above).symm.trans h)
      exact ⟨_, exec_idDec_above_id _ above, completes_again s .errId⟩
    · obtain rfl := (next_inj _ _).1 ((exec_idDec_value s inRange).symm.trans h)
      exact ⟨_, exec_idDec_value _ inRange, completes_again _ .ok⟩

/-- Settles O32: none of these operations changes what its own checks and reads depend on. -/
theorem packUnpackAndIdOperationsAreIdempotent :
    Obligations.PackUnpackAndIdOperationsAreIdempotent := by
  unfold Obligations.PackUnpackAndIdOperationsAreIdempotent
  intro i s t hi h
  obtain hfield | henc | hdec := hi
  · obtain ⟨⟨off, n⟩, hfield⟩ := Option.isSome_iff_exists.1 hfield
    obtain ⟨v, shape⟩ | ⟨x, shape⟩ | ⟨b, value, shape⟩ := exec_eq_of_fieldOf hfield
    · rw [shape] at h ⊢; exact packField_idempotent off n v s t h
    · rw [shape] at h ⊢; exact packScaled_idempotent off n x s t h
    · rw [shape] at h ⊢; exact unpackField_idempotent off n b value s t h
  · cases i with
    | idEnc q axis cid => exact execIdEnc_idempotent q axis cid s t h
    | _ => cases henc
  · cases i with
    | idDec src => exact execIdDec_idempotent src s t h
    | _ => cases hdec

/-! ## A reply buffer that is zero -/

/-- Zero in a field gives 0, whatever the type it is read as: the pattern of +0.0 is 0 too. -/
theorem unpacks_zero {s : State} {off n : Nat} {i : Instr}
    (zero : ∀ a, s.rxBuf.readByte a = 0x00) (fits : off + n ≤ 8)
    (hi : i ∈ [Instr.unpackU8 off .rx, Instr.unpackI16 off .rx, Instr.unpackI32 off .rx,
      Instr.unpackU32 off .rx, Instr.unpackF32 off .rx, Instr.unpackFf16 off .rx])
    (hfield : fieldOf i = some (off, n)) :
    ∃ u, exec i s = .next u ∧ completed u .ok ∧ u.result = 0 ∧
      onlyChanges (.result :: completionRegs) s u := by
  have holdsZero (n : Nat) : holdsField (s.buffer .rx) off n (0 : BitVec (8 * n)) := by
    intro k _
    exact (zero (off + k)).trans BitVec.extractLsb'_zero.symm
  simp only [List.mem_cons, List.not_mem_nil, or_false] at hi
  obtain rfl | rfl | rfl | rfl | rfl | rfl := hi
  · cases hfield
    exact unpacks_and_completes (i := .unpackU8 off .rx) (n := 1) rfl fits (holdsZero 1)
  · cases hfield
    exact unpacks_and_completes (i := .unpackI16 off .rx) (n := 2) rfl fits (holdsZero 2)
  · cases hfield
    exact unpacks_and_completes (i := .unpackI32 off .rx) (n := 4) rfl fits (holdsZero 4)
  · cases hfield
    exact unpacks_and_completes (i := .unpackU32 off .rx) (n := 4) rfl fits (holdsZero 4)
  · cases hfield
    exact unpacks_and_completes (i := .unpackF32 off .rx) (n := 4) rfl fits (holdsZero 4)
  · cases hfield
    have ffZero : ffUnscale (BitVec.ofNat 16 (0 : BitVec 16).toNat) = 0 := by decide
    obtain ⟨u, hexec, hok, hresult, hframe⟩ :=
      unpacks_and_completes (i := .unpackFf16 off .rx) (n := 2) rfl fits (holdsZero 2)
    exact ⟨u, hexec, hok, hresult.trans ffZero, hframe⟩

/-- A code that is one of the two of a timeout (60_exceptions.md R111). -/
def isTimeout (c : Code) : Prop := c.bits = Code.timeout.bits ∨ c.bits = Code.defaulted.bits

/-- A timeout writes nothing, and the reply buffer of a query under way is zero. -/
theorem reply_zero_of_timeout {s : State} (h : Inv s) {c : Code} (cause : Ends s c)
    (busy : s.fsm ≠ .idle) (timeout : isTimeout c) :
    (∀ a, s.rxBuf.readByte a = 0x00) ∧ s.rxDlc = 0 := by
  cases cause with
  | illegal idle => exact absurd idle busy
  | fails acc => exact absurd acc.1 busy
  | notSent | commandSent => exact absurd timeout (by simp [isTimeout, Code.bits])
  | zeroTimeout tx _ _ rtr => exact h.reply_zero (.inr (.inr ⟨tx, rtr⟩))
  | lastTick wait => exact h.reply_zero (.inl wait)

/-- Settles O44: the edge that ends with a timeout code keeps the zero reply buffer of the wait, and
zero bytes read as 0. -/
theorem timedOutQueryReadsAsZero : Obligations.TimedOutQueryReadsAsZero := by
  unfold Obligations.TimedOutQueryReadsAsZero
  intro s t good waiting hstep pulse timeout
  have busy : s.fsm ≠ .idle := by
    obtain wait | tx := waiting
    · simp [wait]
    · simp [tx]
  have zero : (∀ a, t.rxBuf.readByte a = 0x00) ∧ t.rxDlc = 0 := by
    cases hrst : s.now.rst with
    | true =>
      obtain rfl := (next_inj _ _).1 ((step_of_rst hrst).symm.trans hstep)
      exact nomatch pulse
    | false =>
      cases edge_of_step hstep hrst with
      | ends cause => exact reply_zero_of_timeout (s := s) good cause busy timeout
      | captures => exact absurd timeout (by rw [State.complete_lastCode]; decide)
      | writes acc => exact absurd acc.1 busy
      | sends acc => exact absurd acc.1 busy
      | listens acc => exact absurd acc.1 busy
      | quiet => exact nomatch pulse
      | awaitsReply => exact nomatch pulse
      | counts => exact nomatch pulse
  exact ⟨zero.1, zero.2, fun r off n hr fits i hi hfield =>
    unpacks_zero (fun a => (hr a).trans (zero.1 a)) fits hi hfield⟩

end Sys2Proof.Proofs

/-! The courses of an exchange and of a heartbeat wait over many cycles (43_exchange.md R96 to R105,
R110). -/

namespace Sys2Proof.Proofs

open Sys2Proof.Machine Sys2Proof.Safety

/-! ## Runs -/

theorem runFor_succ {s t : State} (h : step s = .next t) (k : Nat) :
    runFor (k + 1) s = runFor k t := by
  rw [runFor, h]

theorem runFor_add {m : Nat} {t : State} (n : Nat) : ∀ {s : State}, runFor m s = .next t →
    runFor (m + n) s = runFor n t := by
  induction m with
  | zero =>
    intro s h
    obtain rfl := (next_inj _ _).1 h
    rw [Nat.zero_add]
  | succ m ih =>
    intro s h
    obtain ⟨s', hstep⟩ := step_total s
    rw [runFor_succ hstep] at h
    rw [Nat.add_right_comm, runFor_succ hstep, ih h]

theorem runFor_one {s t : State} (h : step s = .next t) : runFor 1 s = .next t :=
  runFor_succ h 0

theorem now_of_inputs {s : State} {i : Inputs} {rest : List Inputs} (h : s.inputs = i :: rest) :
    s.now = i ∧ s.beginCycle.inputs = rest := by
  rw [State.beginCycle_inputs, h]
  exact ⟨State.now_cons s i rest h, rfl⟩

theorem fsm_of_cycle {s t : State} (h : onlyChanges cycleRegs s t) : t.fsm = s.fsm :=
  h .fsm (by decide)

theorem waitId_of_cycle {s t : State} (h : onlyChanges cycleRegs s t) : t.waitId = s.waitId :=
  h .waitId (by decide)

/-- A wait in which every cycle's inputs are of a kind that does nothing: it lasts as long as they
come, with every register kept. -/
theorem run_of_quiet_cycles {P : Inputs → Prop} {f : Fsm} {id : CanId} {rest : List Inputs}
    (quiet : ∀ u : State, u.fsm = f → u.waitId = id → P u.now → step u = .next u.beginCycle) :
    ∀ (l : List Inputs) (s : State), s.fsm = f → s.waitId = id → s.inputs = l ++ rest →
      (∀ i ∈ l, P i) →
      ∃ t, runFor l.length s = .next t ∧ t.inputs = rest ∧ onlyChanges cycleRegs s t
  | [], s, _, _, hin, _ =>
    ⟨s, rfl, hin, onlyChanges_mono (List.nil_subset _) (onlyChanges_refl s)⟩
  | i :: l, s, hfsm, hid, hin, hl => by
    obtain ⟨hnow, htail⟩ := now_of_inputs hin
    have hstep := quiet s hfsm hid (hnow ▸ hl i List.mem_cons_self)
    obtain ⟨t, hrun, hrest, hframe⟩ := run_of_quiet_cycles quiet l s.beginCycle hfsm hid htail
      fun j hj => hl j (List.mem_cons_of_mem _ hj)
    exact ⟨t, (runFor_succ hstep _).trans hrun, hrest, onlyChanges_of_branch hframe (by decide)⟩

/-! ## Sending -/

/-- A cycle in which the transport does not answer. -/
def noAnswerIn (i : Inputs) : Prop := i.rst = false ∧ i.txReady = false

theorem step_of_noAnswer {s : State} (tx : s.fsm = .tx) (h : noAnswerIn s.now) :
    step s = .next s.beginCycle := by
  rw [step_of_tx tx h.1, txEdge_not_ready s.beginCycle h.2]

theorem sending_inputs (s : State) : (sending s).inputs = s.beginCycle.inputs := by
  rw [sending]
  split
  · rfl
  · rfl

/-- An accepted XCHG with a frame, and any number of cycles without an answer: the engine stands in
TX as it entered it. -/
theorem run_until_answer {s : State} {offer : Inputs} {waits rest : List Inputs}
    (idle : s.fsm = .idle) (valid : s.frameValid = true) (hin : s.inputs = offer :: (waits ++ rest))
    (hrst : offer.rst = false) (hoffer : offer.cmdValid = true) (hcmd : offer.cmd = 0xC000)
    (hwaits : ∀ i ∈ waits, noAnswerIn i) :
    ∃ u, runFor (waits.length + 1) s = .next u ∧ u.inputs = rest ∧
      onlyChanges cycleRegs (sending s) u := by
  obtain ⟨hnow, htail⟩ := now_of_inputs hin
  have acc : accepted s .xchg := ⟨idle, hnow ▸ hoffer, by rw [hnow, hcmd]; exact decode_xchg _⟩
  have hstep : step s = .next (sending s) :=
    (step_of_accepted acc (hnow ▸ hrst)).trans (exec_xchg_with_frame valid)
  obtain ⟨u, hrun, hrest, hframe⟩ := run_of_quiet_cycles (f := .tx) (id := s.frameId)
    (fun _ tx _ h => step_of_noAnswer tx h) waits (sending s) rfl rfl
    ((sending_inputs s).trans htail) hwaits
  exact ⟨u, (runFor_succ hstep _).trans hrun, hrest, hframe⟩

/-- Settles O40: the wait for the transport's answer, and the edge in TX that sends a command. -/
theorem commandExchangeCompletesWhenSent : Obligations.CommandExchangeCompletesWhenSent := by
  unfold Obligations.CommandExchangeCompletesWhenSent
  intro s offer hand waits rest idle valid rtr hin hrst hoffer hcmd hwaits hhand ready ok
  obtain ⟨u, hrun, hrest, hframe⟩ := run_until_answer idle valid hin hrst hoffer hcmd hwaits
  obtain ⟨hnow, htail⟩ := now_of_inputs hrest
  have frame := onlyChanges_trans (onlyChanges_sending_command rtr) hframe
  have sent : step u = .next (u.beginCycle.complete .ok) := by
    rw [step_of_tx (fsm_of_cycle hframe) (hnow ▸ hhand),
      txEdge_command_sent u.beginCycle (hnow ▸ ready) (hnow ▸ ok)
        ((frame .frameRtr (by decide)).trans rtr)]
  exact ⟨_, (runFor_add 1 hrun).trans (runFor_one sent), completed_complete _ .ok,
    waitId_of_cycle hframe, htail,
    onlyChanges_mono (by decide) (onlyChanges_trans frame (completes_at_edge u .ok).2)⟩

/-! ## Waiting for a reply -/

/-- The ticks of one cycle. -/
theorem ticksIn_cons (i : Inputs) (l : List Inputs) :
    ticksIn (i :: l) = (if i.msTick then 1 else 0) + ticksIn l := rfl

theorem ticksIn_append (l l' : List Inputs) : ticksIn (l ++ l') = ticksIn l + ticksIn l' := by
  induction l with
  | nil => exact (Nat.zero_add _).symm
  | cons i l ih => rw [List.cons_append, ticksIn_cons, ticksIn_cons, ih, Nat.add_assoc]

theorem ticksIn_take_le (k : Nat) (l : List Inputs) : ticksIn (l.take k) ≤ ticksIn l := by
  have split := ticksIn_append (l.take k) (l.drop k)
  rw [List.take_append_drop] at split
  omega

/-- One cycle of a wait for a reply that is neither a match nor the last tick. -/
theorem step_of_noReply {s : State} (wait : s.fsm = .waitRsp) (h : noReplyIn s.waitId s.now)
    (before : s.tickCnt.toNat + (if s.now.msTick then 1 else 0) < s.timeoutMs.toNat) :
    ∃ t, step s = .next t ∧ t.inputs = s.beginCycle.inputs ∧
      t.tickCnt.toNat = s.tickCnt.toNat + (if s.now.msTick then 1 else 0) ∧
      onlyChanges (.tickCnt :: cycleRegs) s t := by
  rw [step_of_waitRsp wait h.1, waitRspEdge_without_match s.beginCycle h.2]
  cases tick : s.now.msTick with
  | false =>
    exact ⟨_, rfl, rfl, rfl, onlyChanges_mono (by decide) (onlyChanges_beginCycle s)⟩
  | true =>
    rw [tick] at before
    exact ⟨_, congrArg Host.Outcome.next (tickEdge_before_last s.beginCycle before), rfl,
      countTick_tickCnt_toNat s.beginCycle before,
      onlyChanges_of_branch (onlyChanges_countTick _) (by decide)⟩

/-- A wait for a reply goes on through every cycle that brings none, and counts their ticks. -/
theorem run_of_noReply {rest : List Inputs} :
    ∀ (l : List Inputs) (s : State), s.fsm = .waitRsp → s.inputs = l ++ rest →
      (∀ i ∈ l, noReplyIn s.waitId i) → s.tickCnt.toNat + ticksIn l < s.timeoutMs.toNat →
      ∃ t, runFor l.length s = .next t ∧ t.inputs = rest ∧
        t.tickCnt.toNat = s.tickCnt.toNat + ticksIn l ∧ onlyChanges (.tickCnt :: cycleRegs) s t
  | [], s, _, hin, _, _ =>
    ⟨s, rfl, hin, rfl, onlyChanges_mono (List.nil_subset _) (onlyChanges_refl s)⟩
  | i :: l, s, wait, hin, hl, before => by
    obtain ⟨hnow, htail⟩ := now_of_inputs hin
    rw [ticksIn_cons] at before
    obtain ⟨u, hstep, huin, htick, hframe⟩ := step_of_noReply wait
      (hnow ▸ hl i List.mem_cons_self) (by rw [hnow]; omega)
    have hwaitId : u.waitId = s.waitId := hframe .waitId (by decide)
    have htimeout : u.timeoutMs = s.timeoutMs := hframe .timeoutMs (by decide)
    rw [hnow] at htick
    obtain ⟨t, hrun, hrest, hticks, hframe'⟩ := run_of_noReply l u
      ((hframe .fsm (by decide)).trans wait) (huin.trans htail)
      (fun j hj => hwaitId ▸ hl j (List.mem_cons_of_mem _ hj)) (by rw [htimeout]; omega)
    refine ⟨t, (runFor_succ hstep _).trans hrun, hrest, ?_,
      onlyChanges_mono (by decide) (onlyChanges_trans hframe hframe')⟩
    rw [ticksIn_cons, hticks, htick, Nat.add_assoc]

/-- Settles O41: the wait for the transport, the edge in TX that begins the wait for the reply, the
cycles without one, and the match. -/
theorem answeredQueryCapturesTheReply : Obligations.AnsweredQueryCapturesTheReply := by
  unfold Obligations.AnsweredQueryCapturesTheReply
  intro s offer hand reply waits others rest idle valid rtr hin hrst hoffer hcmd hwaits
    hhand ready ok hothers hticks hreply hvalid hid
  obtain ⟨u, hrun, hrest, hframe⟩ := run_until_answer idle valid hin hrst hoffer hcmd hwaits
  obtain ⟨hnow, htail⟩ := now_of_inputs hrest
  have frameU := onlyChanges_trans (onlyChanges_sending s) hframe
  have htimeout : u.timeoutMs = s.timeoutMs := frameU .timeoutMs (by decide)
  have hwaitId : u.waitId = s.frameId := waitId_of_cycle hframe
  have positive : u.timeoutMs ≠ 0 := by
    intro hzero
    rw [← htimeout, hzero] at hticks
    exact Nat.not_lt_zero _ hticks
  have sent : step u = .next u.beginCycle.startReplyWait := by
    rw [step_of_tx (fsm_of_cycle hframe) (hnow ▸ hhand),
      txEdge_query_sent u.beginCycle (hnow ▸ ready) (hnow ▸ ok)
        ((frameU .frameRtr (by decide)).trans rtr) positive]
  obtain ⟨v, hrunV, hrestV, -, hframeV⟩ := run_of_noReply others u.beginCycle.startReplyWait rfl
    htail (fun i hi => (hwaitId.symm ▸ hothers i hi : noReplyIn u.waitId i))
    (by show 0 + _ < u.timeoutMs.toNat; rw [htimeout]; omega)
  obtain ⟨hnowV, htailV⟩ := now_of_inputs hrestV
  have hwaitV : v.waitId = s.frameId := (hframeV .waitId (by decide)).trans hwaitId
  have isMatch : v.now.rxValid = true ∧ v.now.rxId = v.waitId :=
    ⟨hnowV ▸ hvalid, hwaitV ▸ hnowV ▸ hid⟩
  have answered : step v = .next ((v.beginCycle.capture v.now).complete .ok) := by
    rw [step_of_waitRsp (hframeV .fsm (by decide)) (hnowV ▸ hreply),
      waitRspEdge_of_match v.beginCycle isMatch]
  have run : runFor (waits.length + others.length + 3) s =
      .next ((v.beginCycle.capture v.now).complete .ok) := by
    rw [show waits.length + others.length + 3 = waits.length + 1 + (others.length + 1 + 1) by omega,
      runFor_add _ hrun, runFor_succ sent, runFor_add 1 hrunV, runFor_one answered]
  have frameW : onlyChanges (.fsm :: .tickCnt :: cycleRegs) u u.beginCycle.startReplyWait :=
    onlyChanges_of_branch (onlyChanges_startReplyWait _) (by decide)
  obtain ⟨done, capturedNow, frameReply⟩ := captures_at_edge v v.now
  exact ⟨_, run, done, hnowV ▸ capturedNow, hwaitV, htailV,
    onlyChanges_mono (by decide) (onlyChanges_trans frameU
      (onlyChanges_trans frameW (onlyChanges_trans hframeV frameReply)))⟩

/-- The beginning of a stretch of cycles. -/
theorem inputs_split {s : State} {cycles rest : List Inputs} (h : s.inputs = cycles ++ rest)
    (k : Nat) : s.inputs = cycles.take k ++ (cycles.drop k ++ rest) := by
  rw [← List.append_assoc, List.take_append_drop, h]

/-- Settles O42: a wait for a reply goes on before the last tick, at every cycle, and the last tick
takes the timeout branch. -/
theorem unansweredQueryTimesOutAtItsLastTick :
    Obligations.UnansweredQueryTimesOutAtItsLastTick := by
  unfold Obligations.UnansweredQueryTimesOutAtItsLastTick
  intro s cycles rest last wait hin hcycles hlast tick hticks
  constructor
  · intro k hk
    obtain ⟨u, hrun, -, -, hframe⟩ := run_of_noReply (cycles.take k) s wait (inputs_split hin k)
      (fun i hi => hcycles i (List.mem_of_mem_take hi))
      (by have := ticksIn_take_le k cycles; omega)
    rw [List.length_take_of_le hk] at hrun
    exact ⟨u, hrun, (hframe .fsm (by decide)).trans wait⟩
  · obtain ⟨u, hrun, hrest, hcount, hframe⟩ :=
      run_of_noReply cycles s wait hin hcycles (by omega)
    obtain ⟨hnow, htail⟩ := now_of_inputs hrest
    have hwaitId : u.waitId = s.waitId := hframe .waitId (by decide)
    have htimeout : u.timeoutMs = s.timeoutMs := hframe .timeoutMs (by decide)
    have hsilent : u.silent = s.silent := hframe .silent (by decide)
    have noReply : noReplyIn u.waitId u.now := by rwa [hwaitId, hnow]
    have expired : step u =
        .next (u.beginCycle.complete (if s.silent then .defaulted else .timeout)) := by
      rw [step_of_waitRsp ((hframe .fsm (by decide)).trans wait) noReply.1,
        waitRspEdge_without_match u.beginCycle noReply.2, if_pos (hnow ▸ tick),
        tickEdge_last u.beginCycle (by
          show u.timeoutMs.toNat ≤ u.tickCnt.toNat + 1
          rw [htimeout, hcount]
          omega),
        timeoutCode_beginCycle, hsilent]
    obtain ⟨done, frameLast⟩ := completes_at_edge u (if s.silent then .defaulted else .timeout)
    exact ⟨_, (runFor_add 1 hrun).trans (runFor_one expired), done, htail,
      onlyChanges_mono (by decide) (onlyChanges_trans hframe frameLast)⟩

/-! ## Waiting for a heartbeat -/

theorem step_of_noHeartbeat {s : State} (wait : s.fsm = .waitHb) (h : noReplyIn s.waitId s.now) :
    step s = .next s.beginCycle := by
  rw [step_of_waitHb wait h.1, waitHbEdge_without_match s.beginCycle h.2]

theorem run_of_noHeartbeat {s : State} {l rest : List Inputs} (wait : s.fsm = .waitHb)
    (hin : s.inputs = l ++ rest) (hl : ∀ i ∈ l, noReplyIn s.waitId i) :
    ∃ t, runFor l.length s = .next t ∧ t.inputs = rest ∧ onlyChanges cycleRegs s t :=
  run_of_quiet_cycles (fun _ hfsm hid h => step_of_noHeartbeat hfsm (hid ▸ h)) l s wait rfl hin hl

/-- Settles O43: every cycle without the heartbeat is quiet, and the first one with it is the
match. -/
theorem heartbeatWaitLastsUntilTheHeartbeat : Obligations.HeartbeatWaitLastsUntilTheHeartbeat := by
  unfold Obligations.HeartbeatWaitLastsUntilTheHeartbeat
  intro s cycles rest beat wait hin hcycles hrst hvalid hid
  constructor
  · intro k hk
    obtain ⟨u, hrun, -, hframe⟩ := run_of_noHeartbeat wait (inputs_split hin k)
      fun i hi => hcycles i (List.mem_of_mem_take hi)
    rw [List.length_take_of_le hk] at hrun
    exact ⟨u, hrun, (fsm_of_cycle hframe).trans wait, hframe⟩
  · obtain ⟨u, hrun, hrest, hframe⟩ := run_of_noHeartbeat wait hin hcycles
    obtain ⟨hnow, htail⟩ := now_of_inputs hrest
    have isMatch : u.now.rxValid = true ∧ u.now.rxId = u.waitId :=
      ⟨hnow ▸ hvalid, (hnow ▸ hid).trans (waitId_of_cycle hframe).symm⟩
    have heard : step u = .next ((u.beginCycle.capture u.now).complete .ok) := by
      rw [step_of_waitHb ((fsm_of_cycle hframe).trans wait) (hnow ▸ hrst),
        waitHbEdge_of_match u.beginCycle isMatch]
    obtain ⟨done, capturedNow, frameBeat⟩ := captures_at_edge u u.now
    exact ⟨_, (runFor_add 1 hrun).trans (runFor_one heard), done, hnow ▸ capturedNow, htail,
      onlyChanges_mono (by decide) (onlyChanges_trans hframe frameBeat)⟩

end Sys2Proof.Proofs

/-! binary32: the magnitudes of the patterns, and rounding to the nearest of them, ties to even
(00_scope.md R13). -/

namespace Sys2Proof.Proofs

open Sys2Proof.Machine Sys2Proof.Safety

/-! ## The fields of a pattern -/

theorem expField_eq (x : DataWord) : B32.expField x = x.toNat / 2 ^ 23 % 256 := by
  rw [B32.expField, BitVec.extractLsb'_toNat, Nat.shiftRight_eq_div_pow]

theorem fracField_eq (x : DataWord) : B32.fracField x = x.toNat % 2 ^ 23 := by
  rw [B32.fracField, BitVec.extractLsb'_toNat, Nat.shiftRight_zero]

/-- The sign bit takes no part in the magnitude. -/
theorem magnitude_eq (x : DataWord) : B32.magnitude x = b32MagnitudeOf (x.toNat % 2 ^ 31) := by
  have hexp : x.toNat % 2 ^ 31 % 2 ^ 32 / 2 ^ 23 % 256 = x.toNat / 2 ^ 23 % 256 := by omega
  have hfrac : x.toNat % 2 ^ 31 % 2 ^ 32 % 2 ^ 23 = x.toNat % 2 ^ 23 := by omega
  rw [b32MagnitudeOf, B32.magnitude, B32.magnitude, expField_eq, expField_eq, fracField_eq,
    fracField_eq, BitVec.toNat_ofNat, hexp, hfrac]

/-- The pattern of significand `m` and shift `s`, in the form that `B32.round` builds it: below 2^24
units a magnitude is its own pattern, and each doubling of the unit adds one to the exponent. -/
theorem magnitudeOf_significand {s m : Nat} (hm : s = 0 ∨ 2 ^ 23 ≤ m) (hm' : m ≤ 2 ^ 24)
    (hy : s * 2 ^ 23 + m < 2 ^ 31) : b32MagnitudeOf (s * 2 ^ 23 + m) = m * 2 ^ s := by
  rw [b32MagnitudeOf, B32.magnitude, expField_eq, fracField_eq, BitVec.toNat_ofNat,
    Nat.mod_eq_of_lt (show s * 2 ^ 23 + m < 2 ^ 32 by omega)]
  obtain small | ⟨normal, below⟩ | rfl : m < 2 ^ 23 ∨ (2 ^ 23 ≤ m ∧ m < 2 ^ 24) ∨ m = 2 ^ 24 := by
    omega
  · obtain rfl : s = 0 := by omega
    rw [if_pos (by omega), pow_zero]
    omega
  · rw [if_neg (by omega), show (s * 2 ^ 23 + m) / 2 ^ 23 % 256 - 1 = s by omega,
      show 2 ^ 23 + (s * 2 ^ 23 + m) % 2 ^ 23 = m by omega]
  · rw [if_neg (by omega), show (s * 2 ^ 23 + 2 ^ 24) / 2 ^ 23 % 256 - 1 = s + 1 by omega,
      show 2 ^ 23 + (s * 2 ^ 23 + 2 ^ 24) % 2 ^ 23 = 2 ^ 23 by omega, pow_succ 2 s]
    ring

/-- Every pattern has that form. -/
theorem exists_significand (y : Nat) :
    ∃ s m, y = s * 2 ^ 23 + m ∧ (s = 0 ∨ 2 ^ 23 ≤ m) ∧ m < 2 ^ 24 := by
  obtain small | normal := Nat.lt_or_ge y (2 ^ 23)
  · exact ⟨0, y, by omega, .inl rfl, by omega⟩
  · exact ⟨y / 2 ^ 23 - 1, 2 ^ 23 + y % 2 ^ 23, by omega, .inr (by omega), by omega⟩

theorem magnitudeOf_lt_succ {y : Nat} (hy : y + 1 < 2 ^ 31) :
    b32MagnitudeOf y < b32MagnitudeOf (y + 1) := by
  obtain ⟨s, m, rfl, hm, hm'⟩ := exists_significand y
  rw [Nat.add_assoc] at hy ⊢
  rw [magnitudeOf_significand hm hm'.le (by omega),
    magnitudeOf_significand (by omega) hm' hy]
  exact Nat.mul_lt_mul_of_pos_right m.lt_succ_self (Nat.two_pow_pos s)

/-- The patterns without their sign are ordered as their magnitudes. -/
theorem magnitudeOf_lt {y z : Nat} (hyz : y < z) (hz : z < 2 ^ 31) :
    b32MagnitudeOf y < b32MagnitudeOf z := by
  induction z, hyz using Nat.le_induction with
  | base => exact magnitudeOf_lt_succ hz
  | succ z _ ih => exact (ih (by omega)).trans (magnitudeOf_lt_succ hz)

theorem magnitudeOf_inj {y z : Nat} (hy : y < 2 ^ 31) (hz : z < 2 ^ 31)
    (h : b32MagnitudeOf y = b32MagnitudeOf z) : y = z := by
  obtain lt | eq | gt := Nat.lt_trichotomy y z
  · exact absurd h (magnitudeOf_lt lt hz).ne
  · exact eq
  · exact absurd h (magnitudeOf_lt gt hy).ne'

/-- From the first pattern of a shift on, magnitudes are multiples of its unit. -/
theorem exists_magnitudeOf_eq_mul {s y : Nat} (hs : s = 0 ∨ s * 2 ^ 23 + 2 ^ 23 ≤ y)
    (hy : y < 2 ^ 31) : ∃ k, b32MagnitudeOf y = k * 2 ^ s := by
  obtain ⟨s', m, rfl, hm, hm'⟩ := exists_significand y
  obtain ⟨e, rfl⟩ : ∃ e, s' = s + e := Nat.exists_eq_add_of_le (by omega)
  refine ⟨m * 2 ^ e, ?_⟩
  rw [magnitudeOf_significand hm hm'.le hy, pow_add]
  ring

/-! ## Rounding to an integer -/

/-- The distance of two natural numbers. -/
def gap (a b : Nat) : Nat := ((a : Int) - b).natAbs

theorem b32Distance_eq (y p q : Nat) : b32Distance y p q = gap (b32MagnitudeOf y * q) p := by
  rw [b32Distance, gap, Nat.cast_mul]

theorem nearestEven_cases (p d : Nat) :
    (B32.nearestEven p d = p / d ∧
      (2 * (p % d) < d ∨ 2 * (p % d) = d ∧ p / d % 2 = 0)) ∨
    (B32.nearestEven p d = p / d + 1 ∧
      (d < 2 * (p % d) ∨ 2 * (p % d) = d ∧ p / d % 2 = 1)) := by
  unfold B32.nearestEven
  split
  next up => exact .inr ⟨rfl, up⟩
  next down => exact .inl ⟨rfl, by omega⟩

section
variable {p d k : Nat}

theorem gap_of_le (hk : k ≤ p / d) : gap (k * d) p = p % d + (p / d - k) * d := by
  have hp : p / d * d + p % d = p := Nat.div_add_mod' p d
  have hkd : (p / d - k) * d + k * d = p / d * d := by
    rw [← Nat.add_mul, Nat.sub_add_cancel hk]
  unfold gap
  omega

theorem gap_of_gt (hd : 0 < d) (hk : p / d < k) :
    gap (k * d) p = d - p % d + (k - (p / d + 1)) * d := by
  have hp : p / d * d + p % d = p := Nat.div_add_mod' p d
  have hr : p % d < d := Nat.mod_lt p hd
  have hkd : (k - (p / d + 1)) * d + (p / d * d + d) = k * d := by
    rw [← Nat.succ_mul, ← Nat.add_mul, Nat.sub_add_cancel hk]
  unfold gap
  omega

/-- No multiple of `d` lies nearer to `p`, and of two that lie equally near the even one is
taken. -/
theorem nearestEven_nearest (hd : 0 < d) (p k : Nat) :
    gap (B32.nearestEven p d * d) p ≤ gap (k * d) p ∧
      (gap (k * d) p = gap (B32.nearestEven p d * d) p → k ≠ B32.nearestEven p d →
        B32.nearestEven p d % 2 = 0) := by
  have hr : p % d < d := Nat.mod_lt p hd
  have floor : gap (p / d * d) p = p % d := by simp [gap_of_le le_rfl]
  have ceil : gap ((p / d + 1) * d) p = d - p % d := by simp [gap_of_gt hd (Nat.lt_succ_self _)]
  have apart (n : Nat) (hn : n ≠ 0) : d ≤ n * d := Nat.le_mul_of_pos_left d (Nat.pos_of_ne_zero hn)
  obtain hk | hk := Nat.lt_or_ge (p / d) k
  · have hgap := gap_of_gt hd hk
    have hfar := apart (k - (p / d + 1))
    obtain ⟨hm, hnear⟩ | ⟨hm, hnear⟩ := nearestEven_cases p d
    · rw [hm, floor]
      omega
    · rw [hm, ceil]
      omega
  · have hgap := gap_of_le hk
    have hfar := apart (p / d - k)
    obtain ⟨hm, hnear⟩ | ⟨hm, hnear⟩ := nearestEven_cases p d
    · rw [hm, floor]
      omega
    · rw [hm, ceil]
      omega

end

/-! ## The shift of a quotient -/

section
variable {p q : Nat}

/-- The quotient has at most 24 bits above the shift. -/
theorem lt_of_shift (hq : 0 < q) : p < q * 2 ^ B32.shift p q * 2 ^ 24 := by
  have hlog : p / q < 2 ^ (Nat.log2 (p / q) + 1) := Nat.lt_log2_self
  have hle : Nat.log2 (p / q) + 1 ≤ B32.shift p q + 24 := by unfold B32.shift; omega
  have hdiv := hlog.trans_le (Nat.pow_le_pow_right (by decide) hle)
  rw [Nat.div_lt_iff_lt_mul hq] at hdiv
  rw [Nat.mul_assoc, ← pow_add, Nat.mul_comm]
  exact hdiv

/-- A quotient that is shifted has 24 bits above the shift. -/
theorem le_of_shift (hq : 0 < q) (hs : B32.shift p q ≠ 0) :
    q * 2 ^ B32.shift p q * 2 ^ 23 ≤ p := by
  have hlog : Nat.log2 (p / q) = B32.shift p q + 23 := by unfold B32.shift at hs ⊢; omega
  have hne : p / q ≠ 0 := by
    intro h
    rw [h, Nat.log2_zero] at hlog
    omega
  have hdiv := Nat.log2_self_le hne
  rw [hlog, Nat.le_div_iff_mul_le hq] at hdiv
  rw [Nat.mul_assoc, ← pow_add, Nat.mul_comm]
  exact hdiv

theorem unit_pos (hq : 0 < q) : 0 < q * 2 ^ B32.shift p q :=
  Nat.mul_pos hq (Nat.two_pow_pos _)

/-- The significand of a quotient, before the exponent is put to it. -/
def significand (p q : Nat) : Nat := B32.nearestEven p (q * 2 ^ B32.shift p q)

theorem round_eq (p q : Nat) :
    B32.round p q = min (B32.shift p q * 2 ^ 23 + significand p q) B32.infMagnitude := rfl

theorem significand_le (hq : 0 < q) : significand p q ≤ 2 ^ 24 := by
  have hdiv : p / (q * 2 ^ B32.shift p q) < 2 ^ 24 := by
    rw [Nat.div_lt_iff_lt_mul (unit_pos hq), Nat.mul_comm]
    exact lt_of_shift hq
  obtain ⟨hm, -⟩ | ⟨hm, -⟩ := nearestEven_cases p (q * 2 ^ B32.shift p q)
  · rw [significand, hm]; omega
  · rw [significand, hm]; omega

theorem le_significand (hq : 0 < q) : B32.shift p q = 0 ∨ 2 ^ 23 ≤ significand p q := by
  by_cases hs : B32.shift p q = 0
  · exact .inl hs
  have hdiv : 2 ^ 23 ≤ p / (q * 2 ^ B32.shift p q) := by
    rw [Nat.le_div_iff_mul_le (unit_pos hq), Nat.mul_comm]
    exact le_of_shift hq hs
  obtain ⟨hm, -⟩ | ⟨hm, -⟩ := nearestEven_cases p (q * 2 ^ B32.shift p q)
  · rw [significand, hm]; exact .inr hdiv
  · rw [significand, hm]; exact .inr (by omega)

/-! ## Overflow -/

/-- Half a unit past the largest finite value, in units of 2^-149. -/
def overflowBound : Nat := (2 ^ 25 - 1) * 2 ^ 252

/-- Below the bound the shift is at most that of the largest finite value, and at that shift the
significand does not carry. -/
theorem significand_below_overflow (hq : 0 < q) (h : p < q * overflowBound) :
    B32.shift p q * 2 ^ 23 + significand p q < B32.infMagnitude := by
  have hm := significand_le (p := p) hq
  have hs : B32.shift p q ≤ 253 := by
    by_contra hs
    have hle := le_of_shift (p := p) hq (by omega)
    have hpow : 2 ^ 254 ≤ 2 ^ B32.shift p q := Nat.pow_le_pow_right (by decide) (by omega)
    have hunit : q * 2 ^ 254 ≤ q * 2 ^ B32.shift p q := Nat.mul_le_mul_left q hpow
    unfold overflowBound at h
    omega
  unfold B32.infMagnitude
  obtain hs | hs : B32.shift p q < 253 ∨ B32.shift p q = 253 := by omega
  · omega
  have hp := Nat.div_add_mod' p (q * 2 ^ 253)
  have hdiv : p / (q * 2 ^ 253) < 2 ^ 24 := by
    have hlt := lt_of_shift (p := p) hq
    rw [hs] at hlt
    rwa [Nat.div_lt_iff_lt_mul (hs ▸ unit_pos hq), Nat.mul_comm]
  have htwice : 2 * p < q * 2 ^ 253 * (2 ^ 25 - 1) := by unfold overflowBound at h; omega
  have htop : p / (q * 2 ^ 253) = 2 ^ 24 - 1 → 2 * (p % (q * 2 ^ 253)) < q * 2 ^ 253 := by
    intro htop
    rw [htop] at hp
    omega
  rw [significand, hs]
  obtain ⟨hm, -⟩ | ⟨hm, hup⟩ := nearestEven_cases p (q * 2 ^ 253)
  · rw [hm]; omega
  · rw [hm]; omega

/-- From the bound on the shift is past that of the largest finite value, or the significand carries
at it. -/
theorem significand_at_overflow (hq : 0 < q) (h : q * overflowBound ≤ p) :
    B32.infMagnitude ≤ B32.shift p q * 2 ^ 23 + significand p q := by
  have hs : 253 ≤ B32.shift p q := by
    by_contra hs
    have hlt := lt_of_shift (p := p) hq
    have hpow : 2 ^ B32.shift p q ≤ 2 ^ 252 := Nat.pow_le_pow_right (by decide) (by omega)
    have hunit : q * 2 ^ B32.shift p q ≤ q * 2 ^ 252 := Nat.mul_le_mul_left q hpow
    unfold overflowBound at h
    omega
  have hm := (le_significand (p := p) hq).resolve_left (by omega)
  unfold B32.infMagnitude
  obtain hs | hs : 253 < B32.shift p q ∨ B32.shift p q = 253 := by omega
  · omega
  have hp := Nat.div_add_mod' p (q * 2 ^ 253)
  have hr : p % (q * 2 ^ 253) < q * 2 ^ 253 := Nat.mod_lt p (hs ▸ unit_pos hq)
  have hlt := lt_of_shift (p := p) hq
  rw [hs] at hlt
  have htwice : ¬ 2 * p < q * 2 ^ 253 * (2 ^ 25 - 1) := by unfold overflowBound at h; omega
  have hhalf : p / (q * 2 ^ 253) = 2 ^ 24 - 1 → ¬ 2 * (p % (q * 2 ^ 253)) < q * 2 ^ 253 := by
    intro htop
    rw [htop] at hp
    omega
  have htop : 2 ^ 24 - 1 ≤ p / (q * 2 ^ 253) := by
    refine (Nat.le_div_iff_mul_le (hs ▸ unit_pos hq)).2 ?_
    omega
  rw [significand, hs]
  obtain ⟨hm, hdown⟩ | ⟨hm, -⟩ := nearestEven_cases p (q * 2 ^ 253)
  · rw [hm]; omega
  · rw [hm]; omega

theorem round_below_overflow (hq : 0 < q) (h : p < q * overflowBound) :
    B32.round p q = B32.shift p q * 2 ^ 23 + significand p q := by
  rw [round_eq, Nat.min_eq_left (significand_below_overflow hq h).le]

theorem round_lt_infMagnitude (hq : 0 < q) (h : p < q * overflowBound) :
    B32.round p q < B32.infMagnitude := by
  rw [round_below_overflow hq h]
  exact significand_below_overflow hq h

theorem round_at_overflow (hq : 0 < q) (h : q * overflowBound ≤ p) :
    B32.round p q = B32.infMagnitude := by
  rw [round_eq, Nat.min_eq_right (significand_at_overflow hq h)]

theorem infMagnitude_lt : B32.infMagnitude < 2 ^ 31 := by decide

theorem magnitudeOf_round (hq : 0 < q) (h : p < q * overflowBound) :
    b32MagnitudeOf (B32.round p q) = significand p q * 2 ^ B32.shift p q := by
  have hlt := (significand_below_overflow hq h).trans infMagnitude_lt
  rw [round_below_overflow hq h,
    magnitudeOf_significand (le_significand hq) (significand_le hq) hlt]

/-! ## The nearest pattern -/

theorem b32Distance_of_multiple {y k : Nat} (hy : b32MagnitudeOf y = k * 2 ^ B32.shift p q) :
    b32Distance y p q = gap (k * (q * 2 ^ B32.shift p q)) p := by
  rw [b32Distance_eq, hy, Nat.mul_assoc, Nat.mul_comm (2 ^ _) q]

theorem round_mod_two (hq : 0 < q) (h : p < q * overflowBound) :
    B32.round p q % 2 = significand p q % 2 := by
  rw [round_below_overflow hq h]
  omega

/-- Among the patterns whose magnitudes are multiples of the unit, rounding takes the nearest. -/
theorem round_nearest_of_multiple (hq : 0 < q) (h : p < q * overflowBound) {y k : Nat}
    (hy : y < 2 ^ 31) (hk : b32MagnitudeOf y = k * 2 ^ B32.shift p q) :
    b32Distance (B32.round p q) p q ≤ b32Distance y p q ∧
      (b32Distance y p q = b32Distance (B32.round p q) p q → y ≠ B32.round p q →
        B32.round p q % 2 = 0) := by
  have hround := magnitudeOf_round hq h
  rw [b32Distance_of_multiple hk, b32Distance_of_multiple hround, round_mod_two hq h]
  obtain ⟨nearest, tie⟩ := nearestEven_nearest (unit_pos (p := p) hq) p k
  refine ⟨nearest, fun equal other => tie equal fun same => other ?_⟩
  have same : k = significand p q := same
  refine magnitudeOf_inj hy ((round_lt_infMagnitude hq h).trans infMagnitude_lt) ?_
  rw [hk, hround, same]

/-- A pattern below the smallest one of the unit lies farther than that one. -/
theorem round_nearer_of_below (hq : 0 < q) (h : p < q * overflowBound) {y : Nat}
    (hs : B32.shift p q ≠ 0) (hy : y < B32.shift p q * 2 ^ 23 + 2 ^ 23) :
    b32Distance (B32.round p q) p q < b32Distance y p q := by
  have hbound : B32.shift p q * 2 ^ 23 + 2 ^ 23 < 2 ^ 31 := by
    have hm := (le_significand (p := p) hq).resolve_left hs
    have hlt := (significand_below_overflow hq h).trans infMagnitude_lt
    omega
  have hlow : b32MagnitudeOf (B32.shift p q * 2 ^ 23 + 2 ^ 23) = 2 ^ 23 * 2 ^ B32.shift p q :=
    magnitudeOf_significand (.inr le_rfl) (by decide) hbound
  have hless := magnitudeOf_lt hy hbound
  obtain ⟨nearest, -⟩ := round_nearest_of_multiple hq h hbound hlow
  refine nearest.trans_lt ?_
  have hle : b32MagnitudeOf (B32.shift p q * 2 ^ 23 + 2 ^ 23) * q ≤ p := by
    rw [hlow, Nat.mul_comm, Nat.mul_comm (2 ^ 23), ← Nat.mul_assoc]
    exact le_of_shift hq hs
  have hmul := Nat.mul_lt_mul_of_pos_right hless hq
  rw [b32Distance_eq, b32Distance_eq, gap, gap]
  omega

theorem b32Nearest_round (hq : 0 < q) (h : p < q * overflowBound) :
    b32Nearest (B32.round p q) p q := by
  refine ⟨round_lt_infMagnitude hq h, fun y hy => ?_⟩
  have hy : y < 2 ^ 31 := hy.trans infMagnitude_lt
  by_cases far : B32.shift p q ≠ 0 ∧ y < B32.shift p q * 2 ^ 23 + 2 ^ 23
  · have nearer := round_nearer_of_below hq h far.1 far.2
    exact ⟨nearer.le, fun equal => absurd equal nearer.ne'⟩
  · obtain ⟨k, hk⟩ := exists_magnitudeOf_eq_mul (s := B32.shift p q) (by omega) hy
    exact round_nearest_of_multiple hq h hy hk

end

/-- Settles O23: below the bound every finite pattern is a multiple of the unit of the quotient, or
lies below the smallest such multiple and so farther than it. -/
theorem roundingIsNearestTiesToEven : Obligations.RoundingIsNearestTiesToEven := by
  unfold Obligations.RoundingIsNearestTiesToEven
  exact fun p q hq => ⟨round_at_overflow hq, b32Nearest_round hq⟩

end Sys2Proof.Proofs

/-! The feed-forward scaling and its inverse (41_pack.md R84, 42_unpack.md R93). -/

namespace Sys2Proof.Proofs

open Sys2Proof.Machine Sys2Proof.Safety

/-! ## Patterns with a sign -/

theorem finite_iff (x : DataWord) : b32Finite x ↔ x.toNat % 2 ^ 31 < B32.infMagnitude := by
  have hexp : B32.expField x ≠ 255 ↔ x.toNat % 2 ^ 31 < B32.infMagnitude := by
    rw [expField_eq, B32.infMagnitude]
    omega
  rw [← hexp, b32Finite, B32.isNaN, B32.isInf]
  by_cases h : B32.expField x = 255 <;> by_cases hf : B32.fracField x = 0 <;> simp [h, hf]

theorem isInf_iff (x : DataWord) : B32.isInf x = true ↔ x.toNat % 2 ^ 31 = B32.infMagnitude := by
  rw [B32.isInf, Bool.and_eq_true, beq_iff_eq, beq_iff_eq, expField_eq, fracField_eq,
    B32.infMagnitude]
  omega

theorem pattern_toNat_mod {m : Nat} (neg : Bool) (hm : m < 2 ^ 31) :
    (B32.pattern neg m).toNat % 2 ^ 31 = m := by
  rw [B32.pattern, BitVec.toNat_append, BitVec.toNat_ofNat, Nat.mod_eq_of_lt hm,
    shiftLeft_or_eq hm]
  omega

theorem sign_pattern (neg : Bool) (m : Nat) : B32.sign (B32.pattern neg m) = neg := by
  rw [B32.sign, B32.pattern, BitVec.getLsbD_append]
  cases neg <;> rfl

theorem magnitude_pattern {m : Nat} (neg : Bool) (hm : m < 2 ^ 31) :
    B32.magnitude (B32.pattern neg m) = b32MagnitudeOf m := by
  rw [magnitude_eq, pattern_toNat_mod neg hm]

theorem finite_pattern {m : Nat} (neg : Bool) (hm : m < B32.infMagnitude) :
    b32Finite (B32.pattern neg m) := by
  rwa [finite_iff, pattern_toNat_mod neg (hm.trans infMagnitude_lt)]

/-! ## Exact values -/

/-- Rounding does not pass over the value of a pattern. -/
theorem magnitudeOf_le_of_nearest {r p a y : Nat} (h : b32Nearest r p 1)
    (hy : y < B32.infMagnitude) (hmag : b32MagnitudeOf y = a) (hle : p ≤ a) :
    b32MagnitudeOf r ≤ a := by
  have near := (h.2 y hy).1
  rw [b32Distance_eq, b32Distance_eq, gap, gap, Nat.mul_one, Nat.mul_one, hmag] at near
  omega

theorem le_magnitudeOf_of_nearest {r p a y : Nat} (h : b32Nearest r p 1)
    (hy : y < B32.infMagnitude) (hmag : b32MagnitudeOf y = a) (hle : a ≤ p) :
    a ≤ b32MagnitudeOf r := by
  have near := (h.2 y hy).1
  rw [b32Distance_eq, b32Distance_eq, gap, gap, Nat.mul_one, Nat.mul_one, hmag] at near
  omega

/-- A value that is a pattern's rounds to itself. -/
theorem magnitudeOf_nearest_eq {r p y : Nat} (h : b32Nearest r p 1) (hy : y < B32.infMagnitude)
    (hp : b32MagnitudeOf y = p) : b32MagnitudeOf r = p :=
  Nat.le_antisymm (magnitudeOf_le_of_nearest h hy hp le_rfl)
    (le_magnitudeOf_of_nearest h hy hp le_rfl)

/-- Every integer up to 2^16 is a binary32 value. -/
theorem exists_magnitudeOf_integer {k : Nat} (hk : k ≤ 65536) :
    ∃ y, y < B32.infMagnitude ∧ b32MagnitudeOf y = k * 2 ^ 149 := by
  obtain rfl | pos := Nat.eq_zero_or_pos k
  · exact ⟨0, by decide, by decide⟩
  have low : 2 ^ Nat.log2 k ≤ k := Nat.log2_self_le pos.ne'
  have high : k < 2 ^ (Nat.log2 k + 1) := Nat.lt_log2_self
  have hlog : Nat.log2 k ≤ 16 := by
    by_contra h
    have : 2 ^ 17 ≤ 2 ^ Nat.log2 k := Nat.pow_le_pow_right (by decide) (by omega)
    omega
  have hm : 2 ^ 23 ≤ k * 2 ^ (23 - Nat.log2 k) := by
    calc 2 ^ 23 = 2 ^ Nat.log2 k * 2 ^ (23 - Nat.log2 k) := by
          rw [← pow_add, Nat.add_sub_cancel' (by omega)]
      _ ≤ _ := Nat.mul_le_mul_right _ low
  have hm' : k * 2 ^ (23 - Nat.log2 k) ≤ 2 ^ 24 := by
    calc k * 2 ^ (23 - Nat.log2 k) ≤ 2 ^ (Nat.log2 k + 1) * 2 ^ (23 - Nat.log2 k) :=
          Nat.mul_le_mul_right _ high.le
      _ = 2 ^ 24 := by rw [← pow_add]; congr 1; omega
  refine ⟨(126 + Nat.log2 k) * 2 ^ 23 + k * 2 ^ (23 - Nat.log2 k), ?_, ?_⟩
  · rw [B32.infMagnitude]
    omega
  · rw [magnitudeOf_significand (.inr hm) hm' (by omega), Nat.mul_assoc, ← pow_add]
    congr 2
    omega

/-! ## Rounding a scaled fraction -/

theorem nearestEven_mul_right {k : Nat} (hk : 0 < k) (p d : Nat) :
    B32.nearestEven (p * k) (d * k) = B32.nearestEven p d := by
  have hlt : 2 * (p % d * k) > d * k ↔ 2 * (p % d) > d := by
    rw [← Nat.mul_assoc]
    exact Nat.mul_lt_mul_right hk
  have heq : 2 * (p % d * k) = d * k ↔ 2 * (p % d) = d := by
    rw [← Nat.mul_assoc]
    exact Nat.mul_left_inj hk.ne'
  unfold B32.nearestEven
  rw [Nat.mul_mod_mul_right, Nat.mul_div_mul_right _ _ hk]
  simp only [hlt, heq]

/-- Rounding depends on the fraction only. -/
theorem round_mul_right {k : Nat} (hk : 0 < k) (p q : Nat) :
    B32.round (p * k) (q * k) = B32.round p q := by
  have hshift : B32.shift (p * k) (q * k) = B32.shift p q := by
    rw [B32.shift, B32.shift, Nat.mul_div_mul_right _ _ hk]
  rw [B32.round, B32.round, hshift, Nat.mul_right_comm q, nearestEven_mul_right hk]

/-! ## The product -/

theorem magnitude_thousand : B32.magnitude B32.thousand = 1000 * B32.one := by decide

theorem sign_thousand : B32.sign B32.thousand = false := by decide

/-- The rounded product by 1000, in units. -/
theorem mulRne_thousand (x : DataWord) :
    B32.mulRne x B32.thousand =
      B32.pattern (B32.sign x) (B32.round (B32.magnitude x * 1000) 1) := by
  rw [B32.mulRne, sign_thousand, Bool.bne_false, magnitude_thousand, ← Nat.mul_assoc,
    ← round_mul_right (Nat.two_pow_pos 149) _ 1, Nat.one_mul]
  rfl

/-- The quotient by 1000, in units. -/
theorem divRne_thousand (x : DataWord) :
    B32.divRne x B32.thousand =
      B32.pattern (B32.sign x) (B32.round (B32.magnitude x) 1000) := by
  rw [B32.divRne, sign_thousand, Bool.bne_false, magnitude_thousand,
    round_mul_right (k := B32.one) (Nat.two_pow_pos 149)]

theorem round_le_infMagnitude (p q : Nat) : B32.round p q ≤ B32.infMagnitude := Nat.min_le_right _ _

theorem mulRne_toNat_mod (x : DataWord) :
    (B32.mulRne x B32.thousand).toNat % 2 ^ 31 = B32.round (B32.magnitude x * 1000) 1 := by
  rw [mulRne_thousand,
    pattern_toNat_mod _ ((round_le_infMagnitude _ _).trans_lt infMagnitude_lt)]

/-- The rounded product is the nearest pattern below the bound. -/
theorem mulRne_nearest {x : DataWord} (h : B32.magnitude x * 1000 < overflowBound) :
    b32Finite (B32.mulRne x B32.thousand) ∧
      b32Nearest ((B32.mulRne x B32.thousand).toNat % 2 ^ 31) (B32.magnitude x * 1000) 1 := by
  have hone : B32.magnitude x * 1000 < 1 * overflowBound := by rwa [Nat.one_mul]
  rw [finite_iff, mulRne_toNat_mod]
  exact ⟨round_lt_infMagnitude one_pos hone, b32Nearest_round one_pos hone⟩

/-- A round number below the bound. -/
theorem pow_le_overflowBound : 2 ^ 256 ≤ overflowBound := by decide

theorem mulRne_nearest_of_lt_pow {x : DataWord} (h : B32.magnitude x * 1000 < 2 ^ 256) :
    b32Finite (B32.mulRne x B32.thousand) ∧
      b32Nearest ((B32.mulRne x B32.thousand).toNat % 2 ^ 31) (B32.magnitude x * 1000) 1 :=
  mulRne_nearest (h.trans_le pow_le_overflowBound)

/-- From the bound on the rounded product is infinite. -/
theorem mulRne_isInf {x : DataWord} (h : overflowBound ≤ B32.magnitude x * 1000) :
    B32.isInf (B32.mulRne x B32.thousand) = true := by
  rw [isInf_iff, mulRne_toNat_mod]
  exact round_at_overflow one_pos (by rwa [Nat.one_mul])

/-! ## ffscale -/

theorem signed_tdiv (neg : Bool) (m d : Nat) :
    (signed neg m).tdiv d = signed neg (m / d) := by
  cases neg with
  | false => exact (Int.ofNat_tdiv m d).symm
  | true => exact (Int.neg_tdiv _ _).trans (congrArg Neg.neg (Int.ofNat_tdiv m d).symm)

theorem signed_mul (neg : Bool) (m k : Nat) : signed neg m * k = signed neg (m * k) := by
  cases neg with
  | false => exact (Nat.cast_mul m k).symm
  | true => exact (neg_mul _ _).trans (congrArg Neg.neg (Nat.cast_mul m k).symm)

theorem narrow16_eq (n : Int) :
    narrow16 n = if -32768 ≤ n ∧ n ≤ 32767 then some (BitVec.ofInt 16 n) else none := by
  unfold narrow16
  by_cases h : -32768 ≤ n ∧ n ≤ 32767
  · rw [if_neg (by omega), if_pos h]
  · rw [if_pos (by omega), if_neg h]

theorem narrow16_large (neg : Bool) {m : Nat} (h : 65536 ≤ m) : narrow16 (signed neg m) = none := by
  rw [narrow16_eq, if_neg]
  cases neg <;> simp [signed] <;> omega

section
variable {x : DataWord}

theorem ffscale_not_finite (h : ¬ b32Finite x) (mode : FfMul) : ffscale mode x = none := by
  have special : (B32.isNaN x || B32.isInf x) = true := by
    rw [b32Finite] at h
    cases hn : B32.isNaN x <;> cases hi : B32.isInf x <;> simp_all
  rw [ffscale, if_pos special]

theorem ffscale_exact (h : b32Finite x) :
    ffscale .exact x =
      narrow16 (signed (B32.sign x) (B32.magnitude x * 1000 / 2 ^ 149)) := by
  rw [ffscale, h.1, h.2]
  rfl

theorem ffscale_b32Rne_of_isInf (h : b32Finite x)
    (hinf : B32.isInf (B32.mulRne x B32.thousand) = true) : ffscale .b32Rne x = none := by
  rw [ffscale, h.1, h.2, ffProduct, hinf]
  rfl

theorem ffscale_b32Rne (h : b32Finite x)
    (hinf : B32.isInf (B32.mulRne x B32.thousand) = false) :
    ffscale .b32Rne x =
      narrow16 (signed (B32.sign x) (B32.magnitude (B32.mulRne x B32.thousand) / 2 ^ 149)) := by
  rw [ffscale, h.1, h.2, ffProduct, hinf]
  show narrow16 (B32.trunc (B32.mulRne x B32.thousand)) = _
  rw [B32.trunc, B32.one, mulRne_thousand, sign_pattern]

end

/-- Settles O20: `ffscale` by its branches, and the rounded product by O23. -/
theorem ffscaleTruncatesTheProduct : Obligations.FfscaleTruncatesTheProduct := by
  unfold Obligations.FfscaleTruncatesTheProduct
  intro x
  refine ⟨ffscale_not_finite, ?_, ?_⟩
  · rintro h n rfl
    have product : (b32Units x * 1000).tdiv (2 ^ 149) =
        signed (B32.sign x) (B32.magnitude x * 1000 / 2 ^ 149) := by
      have units : b32Units x * 1000 = signed (B32.sign x) (B32.magnitude x * 1000) :=
        signed_mul (B32.sign x) (B32.magnitude x) 1000
      rw [units]
      exact signed_tdiv _ _ (2 ^ 149)
    rw [ffscale_exact h, product, narrow16_eq]
  · rintro h p rfl
    have sign : B32.sign (B32.mulRne x B32.thousand) = B32.sign x := by
      rw [mulRne_thousand, sign_pattern]
    refine ⟨sign, mulRne_nearest, mulRne_isInf, ffscale_b32Rne_of_isInf h, ?_⟩
    rintro hinf n rfl
    have truncated : (b32Units (B32.mulRne x B32.thousand)).tdiv (2 ^ 149) =
        signed (B32.sign x) (B32.magnitude (B32.mulRne x B32.thousand) / 2 ^ 149) := by
      rw [b32Units, sign]
      exact signed_tdiv _ _ (2 ^ 149)
    exact (ffscale_b32Rne h hinf).trans (by rw [← truncated, narrow16_eq]; rfl)

/-! ## Tiny values -/

/-- The largest binary32 value below 0.001 leaves 592 units of 2^116 to 1.0 in its product by 1000,
more than half the distance of the value below 1.0. -/
theorem product_far_below_one {x : DataWord} (h : B32.magnitude x * 1000 < 2 ^ 149) :
    B32.magnitude x * 1000 < 2 ^ 149 - 2 ^ 124 := by
  obtain ⟨s, m, hx, hm, hm'⟩ := exists_significand (x.toNat % 2 ^ 31)
  have hy : s * 2 ^ 23 + m < 2 ^ 31 := hx ▸ Nat.mod_lt _ (Nat.two_pow_pos 31)
  rw [magnitude_eq, hx, magnitudeOf_significand hm hm'.le hy] at h ⊢
  clear hx hy
  obtain hs | rfl | hs : s ≤ 115 ∨ s = 116 ∨ 117 ≤ s := by omega
  · have hpow : 2 ^ s ≤ 2 ^ 115 := Nat.pow_le_pow_right (by decide) hs
    have hmul : m * 2 ^ s ≤ 2 ^ 24 * 2 ^ 115 := Nat.mul_le_mul hm'.le hpow
    omega
  · omega
  · have hpow : 2 ^ 117 ≤ 2 ^ s := Nat.pow_le_pow_right (by decide) hs
    have hmul : 2 ^ 23 * 2 ^ 117 ≤ m * 2 ^ s := Nat.mul_le_mul (by omega) hpow
    omega

/-- The pattern just below 1.0. -/
theorem magnitudeOf_below_one : b32MagnitudeOf 0x3F7FFFFF = 2 ^ 149 - 2 ^ 125 := by decide

/-- What lies nearer to the value below 1.0 than to 1.0 does not round to 1.0. -/
theorem magnitudeOf_lt_one_of_nearest {r p : Nat} (h : b32Nearest r p 1)
    (hp : p < 2 ^ 149 - 2 ^ 124) : b32MagnitudeOf r < 2 ^ 149 := by
  have near := (h.2 0x3F7FFFFF (by decide)).1
  rw [b32Distance_eq, b32Distance_eq, gap, gap, magnitudeOf_below_one] at near
  omega

/-- Settles O21: the exact product is below 1.0, and far enough below it not to round to it. -/
theorem ffscaleOfTinyValuesIsZero : Obligations.FfscaleOfTinyValuesIsZero := by
  unfold Obligations.FfscaleOfTinyValuesIsZero
  intro mode x h tiny
  have zero (neg : Bool) {m : Nat} (hm : m < 2 ^ 149) :
      narrow16 (signed neg (m / 2 ^ 149)) = some 0 := by
    rw [Nat.div_eq_of_lt hm]
    cases neg <;> rfl
  cases mode with
  | exact => rw [ffscale_exact h, zero _ tiny]
  | b32Rne =>
    have far := product_far_below_one tiny
    obtain ⟨hfinite, hnear⟩ := mulRne_nearest_of_lt_pow (x := x) (by omega)
    rw [ffscale_b32Rne h hfinite.2, magnitude_eq, zero _ (magnitudeOf_lt_one_of_nearest hnear far)]

/-! ## The two modes -/

section
variable {x : DataWord}

/-- A product of 2^16 or more fails in both modes. -/
theorem ffscale_large (h : b32Finite x) (large : 65536 * 2 ^ 149 ≤ B32.magnitude x * 1000)
    (mode : FfMul) : ffscale mode x = none := by
  cases mode with
  | exact =>
    rw [ffscale_exact h, narrow16_large]
    rwa [Nat.le_div_iff_mul_le (Nat.two_pow_pos 149)]
  | b32Rne =>
    obtain inf | finite := Nat.lt_or_ge (B32.magnitude x * 1000) overflowBound
    · obtain ⟨hfinite, hnear⟩ := mulRne_nearest inf
      obtain ⟨y, hy, hmag⟩ := exists_magnitudeOf_integer (k := 65536) le_rfl
      have hle := le_magnitudeOf_of_nearest hnear hy hmag large
      rw [ffscale_b32Rne h hfinite.2, narrow16_large]
      rwa [Nat.le_div_iff_mul_le (Nat.two_pow_pos 149), magnitude_eq]
    · exact ffscale_b32Rne_of_isInf h (mulRne_isInf finite)

/-- Below 2^16 the rounded product stays between the integers around the exact one. -/
theorem mulRne_between_integers {k : Nat} (hk : k < 65536)
    (low : k * 2 ^ 149 ≤ B32.magnitude x * 1000)
    (high : B32.magnitude x * 1000 < (k + 1) * 2 ^ 149) :
    b32Finite (B32.mulRne x B32.thousand) ∧
      k * 2 ^ 149 ≤ B32.magnitude (B32.mulRne x B32.thousand) ∧
      B32.magnitude (B32.mulRne x B32.thousand) ≤ (k + 1) * 2 ^ 149 := by
  obtain ⟨hfinite, hnear⟩ := mulRne_nearest_of_lt_pow (x := x) (by omega)
  obtain ⟨y, hy, hmag⟩ := exists_magnitudeOf_integer hk.le
  obtain ⟨z, hz, hmag'⟩ := exists_magnitudeOf_integer (k := k + 1) hk
  rw [magnitude_eq (B32.mulRne x B32.thousand)]
  exact ⟨hfinite, le_magnitudeOf_of_nearest hnear hy hmag low,
    magnitudeOf_le_of_nearest hnear hz hmag' high.le⟩

end

/-- Settles O22: where the truncated products differ, the rounded one has reached the next integer,
since integers are patterns and rounding passes over none. -/
theorem ffModesDifferOnlyAcrossAnInteger : Obligations.FfModesDifferOnlyAcrossAnInteger := by
  unfold Obligations.FfModesDifferOnlyAcrossAnInteger
  intro x h differ
  obtain small | large := Nat.lt_or_ge (B32.magnitude x * 1000) (65536 * 2 ^ 149)
  · obtain ⟨k, hk⟩ : ∃ k, k = B32.magnitude x * 1000 / 2 ^ 149 := ⟨_, rfl⟩
    have low : k * 2 ^ 149 ≤ B32.magnitude x * 1000 := hk ▸ Nat.div_mul_le_self _ _
    have high : B32.magnitude x * 1000 < (k + 1) * 2 ^ 149 :=
      (Nat.div_lt_iff_lt_mul (Nat.two_pow_pos 149)).1 (hk ▸ Nat.lt_succ_self k)
    have hlt : k < 65536 := hk ▸ (Nat.div_lt_iff_lt_mul (Nat.two_pow_pos 149)).2 small
    obtain ⟨hfinite, hlow, hhigh⟩ := mulRne_between_integers hlt low high
    refine ⟨k + 1, high, low, ?_⟩
    by_contra notNext
    have hsame : B32.magnitude (B32.mulRne x B32.thousand) / 2 ^ 149 = k := by omega
    exact differ (by rw [ffscale_b32Rne h hfinite.2, ffscale_exact h, hsame, hk])
  · exact absurd ((ffscale_large h large _).trans (ffscale_large h large _).symm) differ

/-! ## UNPACK_FF16 -/

theorem sign_ofInt (n : Int) : B32.sign (B32.ofInt n) = decide (n < 0) :=
  sign_pattern _ _

/-- The conversion of a 16-bit integer is exact (42_unpack.md R93). -/
theorem magnitude_ofInt {n : Int} (hn : n.natAbs ≤ 65536) :
    B32.magnitude (B32.ofInt n) = n.natAbs * 2 ^ 149 := by
  have hbound : n.natAbs * 2 ^ 149 < 1 * overflowBound := by
    rw [Nat.one_mul]
    exact (by omega : _ < 2 ^ 256).trans_le pow_le_overflowBound
  obtain ⟨y, hy, hmag⟩ := exists_magnitudeOf_integer hn
  have hlt := (round_lt_infMagnitude one_pos hbound).trans infMagnitude_lt
  exact (magnitude_pattern _ hlt).trans
    (magnitudeOf_nearest_eq (b32Nearest_round one_pos hbound) hy hmag)

theorem natAbs_toInt_le (v : BitVec 16) : v.toInt.natAbs ≤ 65536 := by
  have low := BitVec.le_toInt v
  have high := BitVec.toInt_lt (x := v)
  omega

theorem ffUnscale_eq (v : BitVec 16) :
    ffUnscale v =
      B32.pattern (decide (v.toInt < 0)) (B32.round (v.toInt.natAbs * 2 ^ 149) 1000) := by
  rw [ffUnscale, divRne_thousand, sign_ofInt, magnitude_ofInt (natAbs_toInt_le v)]

/-- The division by 1000 is far from overflow, so it is the nearest pattern. -/
theorem ffUnscale_nearest (v : BitVec 16) :
    b32Finite (ffUnscale v) ∧ B32.sign (ffUnscale v) = decide (v.toInt < 0) ∧
      b32Nearest ((ffUnscale v).toNat % 2 ^ 31) (v.toInt.natAbs * 2 ^ 149) 1000 := by
  have hv := natAbs_toInt_le v
  have hbound : v.toInt.natAbs * 2 ^ 149 < 1000 * overflowBound :=
    (by omega : _ < 1000 * 2 ^ 256).trans_le (Nat.mul_le_mul_left 1000 pow_le_overflowBound)
  have hfin := round_lt_infMagnitude (by decide) hbound
  rw [ffUnscale_eq, pattern_toNat_mod _ (hfin.trans infMagnitude_lt)]
  exact ⟨finite_pattern _ hfin, sign_pattern _ _, b32Nearest_round (by decide) hbound⟩

/-- The patterns that R93 lists. -/
theorem ffUnscale_listed :
    ffUnscale 0 = 0 ∧ ffUnscale 1 = 0x3A83126F ∧ ffUnscale 32767 = 0x42031168 ∧
      ffUnscale 0x8000 = 0xC203126F ∧ ffUnscale 2500 = 0x40200000 := by
  decide

/-- Settles O29: the bounds check, then the signed field divided by 1000. -/
theorem unpackFf16DividesByOneThousand : Obligations.UnpackFf16DividesByOneThousand := by
  unfold Obligations.UnpackFf16DividesByOneThousand
  refine ⟨fun off d h => decode_unpack_words (o := .unpackFf16) rfl (fun _ _ => rfl) h d,
    fun s off b => ⟨fun past => only_completes_past_buffer rfl past s, fun v fits holds => ?_⟩⟩
  obtain ⟨t, hexec, hok, hresult, hframe⟩ :=
    unpacks_and_completes (i := .unpackFf16 off b) (n := 2) rfl fits holds
  have hvalue : t.result = ffUnscale v := by rw [hresult, BitVec.ofNat_toNat, BitVec.setWidth_eq]
  obtain ⟨hfinite, hsign, hnear⟩ := ffUnscale_nearest v
  obtain ⟨zero, one, greatest, least, middle⟩ := ffUnscale_listed
  rw [← hvalue] at hfinite hsign hnear
  refine ⟨t, hexec, hok, hframe, hfinite, hsign, hnear, ?_, ?_, ?_, ?_, ?_⟩
  · rintro rfl; exact hvalue.trans zero
  · rintro rfl; exact hvalue.trans one
  · rintro rfl; exact hvalue.trans greatest
  · rintro rfl; exact hvalue.trans least
  · rintro rfl; exact hvalue.trans middle

end Sys2Proof.Proofs
